-- ==== Sys2Proof/Word.lean ====
section
/-! DEFINITION. The word types of the KL482 model. One character on a link is a `Byte`, one settings
value is a `Half`, and the pulse timebase is a `Stamp`. Every duration is a whole number of
microseconds. -/

namespace Sys2Proof

/-- The eight data bits of one character on a link (R150). -/
abbrev Byte := BitVec 8

/-- One settings value, or one two-character field of a frame (R166). -/
abbrev Half := BitVec 16

/-- A value of the free-running 1 µs timebase (R3). -/
abbrev Stamp := BitVec 32

/-- A conversion result of one analog channel (R15). -/
abbrev Count := BitVec 12

/-- A duration in microseconds. -/
abbrev Micros := Nat

/-- `n` milliseconds in microseconds. -/
def ms (n : Nat) : Micros := n * 1000

end Sys2Proof
end

