-- ==== Sys2Proof/Syntax.lean ====
section
/-! DEFINITION. The commands of the KL482: one constructor of `Instr` for each row of
spec/opcode_table.json, with the operands the row's rule gives it. A command is an event at one of the
part's blocks (an edge, a timer expiry, a character) or a request that one good frame carries. -/

namespace Sys2Proof

/-- The three period channels (R2). -/
inductive PeriodCh where
  | eng | pump | flow
deriving DecidableEq, Repr

/-- The two phases of the ROAD channel (R10). -/
inductive RoadPhase where
  | a | b
deriving DecidableEq, Repr

/-- The level of a switch input: its contact is made to its return, or it is not (R21). -/
inductive Contact where
  | closed | opened
deriving DecidableEq, Repr

/-- The two link ports: A to the panel, B to the cab (R140, R149). -/
inductive Port where
  | a | b
deriving DecidableEq, Repr

/-- The origin bit of a request frame (R159). -/
inductive Origin where
  | operator | service
deriving DecidableEq, Repr

/-- The conversion results of the six analog channels at one sample expiry (R15, R16). -/
structure Counts where
  dis : Count
  int : Count
  hwt : Count
  hfm : Count
  cas : Count
  sup : Count
deriving DecidableEq, Repr

/-- What a good request frame tells the part besides its kind and payload (R159, table 10.2): the port
it arrived on, its origin, its tag, and whether it was addressed to 31 (broadcast) rather than to the
part's node address. -/
structure Header where
  port   : Port
  origin : Origin
  tag    : BitVec 7
  bcast  : Bool
deriving DecidableEq, Repr

/-- The record in nonvolatile memory: the value of every item in item-number order, and a CRC over
those values (R171). -/
structure NvImage where
  vals : List Half
  crc  : Half
deriving DecidableEq, Repr

/-- The commands, one constructor for each row of spec/opcode_table.json, in the table's order. -/
inductive Instr where
  | periodEdge (ch : PeriodCh)
  | staleTimerExpiry (ch : PeriodCh)
  | roadEdge (ph : RoadPhase)
  | gateTimerExpiry
  | sampleTimerExpiry (c : Counts)
  | rawLevelChange (line : Fin 12) (level : Contact)
  | debounceExpiry (line : Fin 12)
  | brownOut
  | supplyHoldExpiry
  | resetPinAssert
  | resetPinRelease
  | loadComplete
  | entryDelayExpiry (n : Fin 32)
  | cadenceTimerExpiry
  | enterRoll (h : Header)
  | leaveRoll (h : Header)
  | acknowledgeLockout (h : Header) (n : Byte)
  | acknowledgeLockoutAll (h : Header)
  | silenceAlarm (h : Header)
  | ptoEngage (h : Header)
  | ptoRelease (h : Header)
  | clearPtoFault (h : Header)
  | windowTimerExpiry
  | holdTimerExpiry
  | confirmTimerExpiry
  | spinDownTimerExpiry
  | dropTimerExpiry
  | updateTimerExpiry
  | setGovernor (h : Header) (mode : Byte) (setpoint : Half)
  | pwmPeriodEnd
  | levelTimerExpiry (readings : Vector Byte 6)
  | progressWindowExpiry
  | tankValve (h : Header) (p : Byte)
  | foamPump (h : Header) (p : Byte)
  | setFillMode (h : Header) (p : Byte)
  | primerStart (h : Header)
  | primerStop (h : Header)
  | primeTimerExpiry
  | runTimerExpiry
  | readbackChange (line : Fin 10) (level : Bool)
  | blankTimerExpiry (line : Fin 10)
  | mismatchTimerExpiry (line : Fin 10)
  | retryTimerExpiry (line : Fin 10)
  | clearOutputFaults (h : Header)
  | takeAuthority (h : Header)
  | yieldAuthority (h : Header)
  | silenceTimerExpiry
  | characterReceive (port : Port) (data : Byte) (mark : Bool) (framingError : Bool)
  | gapTimerExpiry (port : Port)
  | replyTransmitStart (port : Port)
  | replyComplete (port : Port)
  | readStatus (h : Header)
  | readMeasurements (h : Header) (group : Byte)
  | readLockouts (h : Header)
  | readEntry (h : Header) (n : Byte)
  | readSetting (h : Header) (item : Half)
  | fetchReports (h : Header)
  | linkRestart (h : Header)
  | writeSetting (h : Header) (item : Half) (value : Half)
  | storeSettings (h : Header)
  | storeComplete (left : Option NvImage)
  | supplyRiseAbove6V
deriving DecidableEq, Repr

end Sys2Proof
end

