-- ==== Sys2Proof/WellFormed.lean ====
section
/-! DEFINITION. Which commands are well formed. The operands' types already bound them (a line number, a
character, a reading), so two checks remain. The meanings are total: an ill-formed command still has the
effect its rule gives. -/

namespace Sys2Proof

/-- The number of items the settings table names (R166). -/
def itemCount : Nat := 267

/-- ACKNOWLEDGE_LOCKOUT names a single entry: the code 255 spells the row ACKNOWLEDGE_LOCKOUT_ALL
(table 10.3). -/
def singleEntry (n : Byte) : Bool := n != 255

/-- What a store leaves in nonvolatile memory is one record, a value for every item (R171). -/
def imageLeft : Option NvImage → Bool
  | none => true
  | some img => img.vals.length == itemCount

/-- The check of one command. -/
def Instr.wellFormed : Instr → Bool
  | .acknowledgeLockout _ n => singleEntry n
  | .storeComplete left => imageLeft left
  | _ => true

end Sys2Proof
end

