-- ==== Sys2Proof/Decode.lean ====
section
/-! DEFINITION. The command that a word spells. No row of spec/opcode_table.json gives bits: a command of
this part is an event at a pin, a timer or a link, and no word spells one. -/

namespace Sys2Proof

/-- The command that the `nbits` bits of `w` spell: none, as the table gives no row bits. -/
def decodeTableWord (_nbits _w : Nat) : Option Instr := none

end Sys2Proof
end

