-- ==== Sys2Proof/Config.lean ====
section
/-! DEFINITION. The free values of the model: values the manual leaves open, each an opaque constant that
no proof can look into. A statement that mentions one holds whatever it is. -/

namespace Sys2Proof

/-- What a two-character field carries when its owner's value does not fit 16 bits. The manual gives the
field 16 bits (R165) and no rule for a wider value. Log entry 6. -/
opaque Config.oversize16 : Nat → Half

/-- What the four-character session total carries when the total does not fit 32 bits (R164). Log entry 6. -/
opaque Config.oversize32 : Nat → BitVec 32

end Sys2Proof
end

