-- ==== Sys2Proof/Machine/State.lean ====
section
/-! DEFINITION. The state of the KL482: one structure per block, as the manual's chapters divide it, the
queue of waiting commands, and the state right after a full reset. A timer is its remaining time in
microseconds, or stopped. -/

namespace Sys2Proof.Machine

/-- A timer: `none` while stopped, else the remaining time. -/
abbrev Timer := Option Micros

/-- Why the part would stop on a command. The manual gives every command of the table an effect in every
state, so there is none. -/
inductive Fault
deriving DecidableEq, Repr

/-- Why a command has no meaning. -/
inductive Refusal where
  /-- Raised by an arm of `exec` whose command has no meaning yet. Safe: the run stops. -/
  | notModelled (mnemonic : String)
deriving DecidableEq, Repr

/-! ## Chapter 1: measured inputs -/

/-- The record of a period channel (R2). -/
structure PeriodChannel where
  history : List Stamp
  rate    : Nat
  stale   : Timer
deriving DecidableEq, Repr

/-- The pulse capture unit's period channels, its timebase (R3) and the flow pulse counter (R8). -/
structure Pulse where
  timebase  : Stamp
  eng       : PeriodChannel
  pump      : PeriodChannel
  flow      : PeriodChannel
  flowCount : BitVec 32
deriving DecidableEq, Repr

/-- The ROAD channel (R10): its two phase inputs (`true` for high), and its counts. -/
structure Road where
  phaseA     : Bool
  phaseB     : Bool
  gate       : Int
  speed      : Int
  zeroRun    : Nat
  standstill : Bool
  creep      : Int
  gateTimer  : Timer
deriving DecidableEq, Repr

/-- The record of an analog channel (R15). `taken` counts the samples since start-up, up to the tenth,
which sets the first-judged flag (R18). -/
structure AnalogChannel where
  samples     : List Count
  average     : Nat
  value       : Int
  valid       : Bool
  run         : Nat
  taken       : Nat
  firstJudged : Bool
deriving DecidableEq, Repr

/-- The analog sampling unit: the six channels, the sample timer (R16) and the supply-low condition (R19). -/
structure Analog where
  dis         : AnalogChannel
  int         : AnalogChannel
  hwt         : AnalogChannel
  hfm         : AnalogChannel
  cas         : AnalogChannel
  sup         : AnalogChannel
  sampleTimer : Timer
  supplyLow   : Bool
deriving DecidableEq, Repr

/-- The record of a switch input (R21, R24). -/
structure SwitchLine where
  raw      : Contact
  active   : Bool
  debounce : Timer
  settled  : Bool
deriving DecidableEq, Repr

/-! ## Reset and start-up (R20, R172) -/

/-- How far the part is from service: held in full reset, loading the image, or in service. -/
inductive Startup where
  | held | loading | running
deriving DecidableEq, Repr

/-- The two holds of R172. `supplyOk` says that the supply stands at or above 6.0 V; the 10 ms hold timer
runs from its rise, and the supply's hold has ended when it has stopped again. -/
structure ResetControl where
  supplyOk   : Bool
  supplyHold : Timer
  pinLow     : Bool
  startup    : Startup
deriving DecidableEq, Repr

/-! ## Chapter 2: apparatus mode and lockout table -/

/-- The apparatus mode (R25). -/
inductive Mode where
  | road | parked | pump | roll
deriving DecidableEq, Repr

/-- A subset of the modes (R33). -/
structure ModeSet where
  road   : Bool
  parked : Bool
  pump   : Bool
  roll   : Bool
deriving DecidableEq, Repr

/-- A subset of the actions (R33). -/
structure ActionSet where
  inhibitDrive : Bool
  inhibitPto   : Bool
  releasePto   : Bool
  forceIdle    : Bool
  limitRoad    : Bool
  alarm        : Bool
deriving DecidableEq, Repr

/-- The state of a lockout entry. -/
inductive EntryState where
  | clear | pending | active | held
deriving DecidableEq, Repr

/-- What moves in the record of a lockout entry (R33); its other fields are fixed or stand in the live
settings table. -/
structure Entry where
  state    : EntryState
  delay    : Timer
  silenced : Bool
deriving DecidableEq, Repr

/-- A join notice (R44): the entry that joined, and its action set. -/
structure Notice where
  entry   : Fin 32
  actions : ActionSet
deriving DecidableEq, Repr

/-- The interlock unit. `notices` is the model's own: the join notices given and not yet taken, empty
between commands. -/
structure Interlock where
  mode    : Mode
  entries : Vector Entry 32
  active  : List (Fin 32)
  cadence : Timer
  notices : List Notice
deriving DecidableEq, Repr

/-! ## Chapter 3: the PTO controller -/

/-- The PTO state (R53). -/
inductive PtoState where
  | disengaged | qualify | engaging | engaged | releasing | fault
deriving DecidableEq, Repr

/-- The stage of RELEASING. -/
inductive Stage where
  | spinDown | drop
deriving DecidableEq, Repr

/-- Why the PTO is in FAULT. -/
inductive FaultReason where
  | confirmTimeout | confirmLost | stuckEngaged | solenoidFault
deriving DecidableEq, Repr

/-- Why an engagement was abandoned in QUALIFY. -/
inductive AbandonCause where
  | parkBrake | neutral | moving | engineSpeed | notHeld | lockout | released | solenoid
deriving DecidableEq, Repr

/-- The PTO context (R53). The PTO_SOL command is O0's commanded level. `failing` is the first qualify
condition found false at the latest judgment (R58), absent when all four held. -/
structure Pto where
  state      : PtoState
  stage      : Option Stage
  reason     : Option FaultReason
  abandon    : Option AbandonCause
  window     : Timer
  hold       : Timer
  confirm    : Timer
  stageTimer : Timer
  slip       : Bool
  failing    : Option AbandonCause
deriving DecidableEq, Repr

/-! ## Chapter 4: the governor -/

/-- The governor state (R72). -/
inductive GovState where
  | off | idle | pressure | speed
deriving DecidableEq, Repr

/-- The ten update settings (R73, R74). -/
structure UpdateSettings where
  nidle    : Int
  nmax     : Int
  rollCap  : Int
  kg       : Int
  deadband : Int
  rup      : Int
  rdown    : Int
  rcav     : Int
  pcav     : Int
  pover    : Int
deriving DecidableEq, Repr

/-- The governor context (R72). The RELIEF command is O5's commanded level; the shadow copy is items 90 to
99 of the live table. -/
structure Governor where
  state        : GovState
  demand       : Option Int
  dmax         : Option Int
  ps           : Int
  ns           : Int
  cavitation   : Bool
  overpressure : Bool
  fallback     : Bool
  capActive    : Bool
  updateTimer  : Timer
  duty         : Int
  work         : UpdateSettings
  casingHot    : Bool
deriving DecidableEq, Repr

/-- The throttle-demand line: frequency index and duty of the period in progress, and what remains of it
(R87). -/
structure Throttle where
  index : Nat
  duty  : Int
  left  : Timer
deriving DecidableEq, Repr

/-! ## Chapters 5 and 6: the tank monitor -/

/-- The two tanks. -/
inductive TankId where
  | water | foam
deriving DecidableEq, Repr

/-- The state of a probe (R94). -/
inductive ProbeState where
  | dry | wet | fault
deriving DecidableEq, Repr

/-- The record of a probe (R94). -/
structure Probe where
  reading   : Byte
  state     : ProbeState
  judged    : Bool
  candidate : Option ProbeState
  run       : Nat
  volume    : Option Int
deriving DecidableEq, Repr

/-- The status of a tank (R105). -/
inductive TankStatus where
  | normal | clamped | probesOnly | unknown
deriving DecidableEq, Repr

/-- Why a tank's status is UNKNOWN. -/
inductive UnknownReason where
  | sensors | table
deriving DecidableEq, Repr

/-- The class of a tank (R107). -/
inductive TankClass where
  | full | normal | low | reserve
deriving DecidableEq, Repr

/-- The level state of a tank. `reseed` says that since the last expiry a write has left the table valid, or
the head channel has been INVALID, so that the filter is seeded when the raw volume is next formed (R103). -/
structure Tank where
  vf         : Option Int
  reseed     : Bool
  orderFault : Bool
  tableValid : Bool
  status     : TankStatus
  reason     : Option UnknownReason
  vrep       : Int
  cls        : TankClass
  clsJudged  : Bool
deriving DecidableEq, Repr

/-- The fill mode (R118). -/
inductive FillMode where
  | off | manual | auto
deriving DecidableEq, Repr

/-- The outcome of the last primer run (R123). -/
inductive PrimerOutcome where
  | none | primed | timeout | stopped
deriving DecidableEq, Repr

/-- The progress window (R120): the reported volume it started from, and what remains of its timer. -/
structure FillWindow where
  start : Int
  left  : Micros
deriving DecidableEq, Repr

/-- The reconciliation window (R125). -/
structure ReconWindow where
  startVrep  : Int
  startTotal : Nat
deriving DecidableEq, Repr

/-- The tank monitor: level state (chapter 5) and control state (R112). The TANK_VALVE, FILL_VALVE, PRIMER
and FOAM_EN commands are the commanded levels of O3, O4, O6 and O8. -/
structure TankMonitor where
  levelTimer   : Timer
  probes       : Vector Probe 6
  water        : Tank
  foam         : Tank
  levelVrep    : Int      -- the WATER Vrep of the latest level expiry (R119, R120, R125; log entry 38)
  external     : Bool
  fillMode     : FillMode
  fillWindow   : Option FillWindow
  fillFault    : Bool
  priming      : Bool
  outcome      : PrimerOutcome
  runTimer     : Timer
  primeTimer   : Timer
  sessionTotal : Nat
  recon        : Option ReconWindow
deriving DecidableEq, Repr

/-! ## Chapter 7: the output unit -/

/-- A line's stop-state (R131). -/
inductive StopState where
  | off | on | keep
deriving DecidableEq, Repr

/-- A line's diag state (R128). -/
inductive Diag where
  | ok | blank | faultOpen | faultStuckOn
deriving DecidableEq, Repr

/-- The phase of a retry (R136). -/
inductive RetryPhase where
  | offPhase | onPhase
deriving DecidableEq, Repr

/-- The record of an output line (R128) and its readback input. `stopState` is the stop-state in use: a
write waits for the next hold (R131). The diagnostic enable and the blank index stand in the live table. -/
structure OutputLine where
  commanded    : Bool
  effective    : Bool
  stopState    : StopState
  kept         : Option Bool
  diag         : Diag
  retryCount   : Nat
  retryPhase   : Option RetryPhase
  blank        : Timer
  mismatch     : Timer
  retry        : Timer
  blankPending : Bool
  readback     : Bool
deriving DecidableEq, Repr

/-- The output unit: its ten lines and the stop hold. -/
structure Outputs where
  lines : Vector OutputLine 10
  hold  : Bool
deriving DecidableEq, Repr

/-! ## Chapter 8: the authority arbiter -/

/-- A station (R140). -/
inductive Station where
  | panel | cab | service
deriving DecidableEq, Repr

/-- The arbiter's state (R141); no holder is holder NONE. -/
structure Authority where
  holder      : Option Station
  claimant    : Option Station
  servicePort : Option Port
  silence     : Timer
  lapsed      : Bool
deriving DecidableEq, Repr

/-! ## Chapter 9: the links -/

/-- The key of a report: its kind and subject (table of section 9.5). -/
inductive ReportKey where
  | lockout (n : Fin 32)
  | mode
  | pto
  | governor
  | authority
  | tank (t : TankId)
  | output (n : Fin 10)
  | fill
  | primer
  | flowCheck
  | settings
deriving DecidableEq, Repr

/-- The content of a report (R165). -/
structure Record where
  state : Byte
  value : Half
  flags : Byte
deriving DecidableEq, Repr

/-- One entry of a report queue (R156). -/
structure ReportEntry where
  key     : ReportKey
  content : Record
  carried : Bool
deriving DecidableEq, Repr

/-- A built reply (R162): the echoed origin and tag character, the echoed kind, the result code, the data,
and the keys of the queue entries it carries. -/
structure Reply where
  originTag : Byte
  kind      : Byte
  result    : Byte
  data      : List Byte
  carries   : List ReportKey
deriving DecidableEq, Repr

/-- The record of a link port (R149). The receive assembler is WAITING while `frame` is absent and
ASSEMBLING while it holds the partial frame. `rateIndex` and `node` are the values fixed at the load. -/
structure PortRecord where
  listening    : Bool
  frame        : Option (List Byte)
  gap          : Timer
  reply        : Option Reply
  transmitting : Bool
  queue        : List ReportEntry
  attention    : Bool
  txEnable     : Bool
  rateIndex    : Nat
  node         : Byte
deriving DecidableEq, Repr

/-- The two link ports. -/
structure Links where
  a : PortRecord
  b : PortRecord
deriving DecidableEq, Repr

/-! ## Chapter 11: the settings store -/

/-- The settings store: the live table (item number and value, empty before the load), the snapshot of a
store in flight (the store state is WRITING while it is present), the defaults-in-use flag, and the
nonvolatile image. -/
structure Store where
  live          : List (Nat × Half)
  snapshot      : Option (List Half)
  defaultsInUse : Bool
  image         : NvImage
deriving DecidableEq, Repr

/-! ## The whole machine -/

/-- The KL482 and the queue of commands that wait for it. -/
structure State where
  ctl     : ResetControl
  pulse   : Pulse
  road    : Road
  analog  : Analog
  disc    : Vector SwitchLine 12
  ilk     : Interlock
  pto     : Pto
  gov     : Governor
  pwm     : Throttle
  tank    : TankMonitor
  out     : Outputs
  auth    : Authority
  links   : Links
  store   : Store
  pending : List Instr
deriving DecidableEq, Repr

/-! ## Full reset -/

/-- An empty period channel (R2). -/
def PeriodChannel.reset : PeriodChannel := ⟨[], 0, none⟩

/-- An analog channel after full reset (R15); SUP alone is VALID. -/
def AnalogChannel.reset (valid : Bool) : AnalogChannel := ⟨[], 0, 0, valid, 0, 0, false⟩

/-- A switch input after full reset: unsettled at its reset value (R24). The raw level is the contact's;
log entry 2 names its value at power-on. -/
def SwitchLine.reset (active : Bool) : SwitchLine := ⟨.opened, active, none, false⟩

/-- A lockout entry after full reset (R33). -/
def Entry.reset : Entry := ⟨.clear, none, false⟩

/-- A probe after full reset (R94). Log entry 2 names the reading's value. -/
def Probe.reset : Probe := ⟨0, .dry, false, none, 0, none⟩

/-- A tank after full reset (R106, R108). Log entry 2 names the reported volume's value before service. -/
def Tank.reset : Tank := ⟨none, false, false, true, .unknown, some .sensors, 0, .normal, false⟩

/-- An output line after full reset (R128), at the stop-state that is its default. -/
def OutputLine.reset (stop : StopState) : OutputLine :=
  ⟨false, false, stop, none, .ok, 0, none, none, none, none, false, false⟩

/-- A link port after full reset (R149), at the default rate and address. -/
def PortRecord.reset : PortRecord := ⟨false, none, none, none, false, [], false, false, 2, 1⟩

/-- The update settings' defaults (R73): the working copy before the load. Log entry 2. -/
def UpdateSettings.reset : UpdateSettings := ⟨750, 2200, 1400, 16, 15, 40, 100, 20, -60, 200⟩

/-- The part at power-on, held in full reset with its supply still below 6.0 V (R20, R172). Every field has
the full-reset value of its own chapter; log entry 2 names those the manual leaves open. -/
def State.reset : State where
  ctl := ⟨false, none, false, .held⟩
  pulse := ⟨0, .reset, .reset, .reset, 0⟩
  road := ⟨false, false, 0, 0, 0, false, 0, none⟩
  analog := ⟨.reset false, .reset false, .reset false, .reset false, .reset false, .reset true, none, false⟩
  disc := #v[.reset false, .reset false, .reset false, .reset true, .reset false, .reset false,
    .reset false, .reset false, .reset false, .reset false, .reset false, .reset false]
  ilk := ⟨.road, Vector.replicate 32 .reset, [], none, []⟩
  pto := ⟨.disengaged, none, none, none, none, none, none, none, false, none⟩
  gov := ⟨.off, none, none, 0, 750, false, false, false, false, none, 50, .reset, false⟩
  pwm := ⟨3, 50, some 4000⟩
  tank := ⟨none, Vector.replicate 6 .reset, .reset, .reset, 0, false, .off, none, false, false, .none, none,
    none, 0, none⟩
  out := ⟨#v[.reset .off, .reset .keep, .reset .keep, .reset .keep, .reset .keep, .reset .on, .reset .off,
    .reset .on, .reset .off, .reset .off], false⟩
  auth := ⟨none, none, none, none, false⟩
  links := ⟨.reset, .reset⟩
  store := ⟨[], none, false, ⟨[], 0⟩⟩
  pending := []

end Sys2Proof.Machine
end

