-- ==== Sys2Proof/Machine/Settings.lean ====
section
/-! DEFINITION. The settings table (R166): every item's permitted values, default and class, the relations
between items (R167), and the view of the live table that every block reads. -/

namespace Sys2Proof.Machine

/-- The values an item permits: a range, a choice among codes, or any subset of the bits of a mask. -/
inductive Domain where
  | range (lo hi : Int)
  | oneOf (codes : List Int)
  | bits (mask : Nat)
deriving DecidableEq, Repr

/-- A row of the settings table. -/
structure ItemSpec where
  domain : Domain
  deflt  : Int
  parked : Bool
deriving DecidableEq, Repr

/-- A LIVE item with a range. -/
def liveItem (lo hi deflt : Int) : ItemSpec := ⟨.range lo hi, deflt, false⟩

/-- A PARKED item with a range. -/
def parkedItem (lo hi deflt : Int) : ItemSpec := ⟨.range lo hi, deflt, true⟩

/-- A PARKED item with a choice among codes. -/
def parkedChoice (codes : List Int) (deflt : Int) : ItemSpec := ⟨.oneOf codes, deflt, true⟩

/-- Items 1 to 18: pulse channels, road channel, analog zeros, supply-low (R2, R10, R15, R19). -/
def inputItems : List ItemSpec :=
  [liveItem 20 5000 100, liveItem 1 8 4, liveItem 100 2000 400, parkedItem 1 255 8,
   liveItem 20 5000 100, liveItem 1 8 4, liveItem 100 2000 400, parkedItem 1 255 4,
   liveItem 20 5000 100, liveItem 1 8 4, liveItem 100 2000 400, parkedItem 10 2000 50,
   liveItem 100 60000 2000,
   liveItem 300 520 410, liveItem 300 520 410, liveItem 300 520 410, liveItem 300 520 410,
   liveItem 90 260 105]

/-- Items 60 to 63: the roll settings (R29). -/
def rollItems : List ItemSpec :=
  [liveItem 0 1 0, liveItem 20 300 100, liveItem 10 200 30, liveItem 1 32767 40]

/-- Items 70 to 79: the PTO settings (R53). -/
def ptoItems : List ItemSpec :=
  [liveItem 1000 30000 5000, liveItem 200 5000 1000, liveItem 600 1500 900, liveItem 500 10000 3000,
   parkedItem 250 4000 1000, liveItem 10 500 80, liveItem 0 10000 2000, liveItem 1000 20000 5000,
   liveItem 600 2000 1000, liveItem 500 10000 2000]

/-- Items 90 to 103: the governor settings (R73). The bounds that name another item are the relation of
R167; the ranges here are what is left of them. -/
def governorItems : List ItemSpec :=
  [liveItem 600 1200 750, liveItem 600 3000 2200, liveItem 600 3000 1400, liveItem 1 255 16,
   liveItem 0 100 15, liveItem 1 200 40, liveItem 1 400 100, liveItem 1 200 20,
   liveItem (-100) 200 (-60), liveItem 50 500 200, liveItem 200 2500 1700, liveItem 0 7 3,
   liveItem 30 100 60, liveItem 40 120 80]

/-- Items 110 to 135, with the unused 129: the probe, filter and class settings (R94, R100, R103, R107). -/
def levelItems : List (Option ItemSpec) :=
  [some (liveItem 1 254 60), some (liveItem 1 254 25),
   some (liveItem 0 1 0), some (liveItem 0 1 0), some (liveItem 0 1 0), some (liveItem 0 1 0),
   some (liveItem 0 1 1), some (liveItem 0 1 1),
   some (parkedItem 0 3000 100), some (parkedItem 0 3000 400), some (parkedItem 0 3000 800),
   some (parkedItem 0 3000 1350), some (parkedItem 0 3000 60), some (parkedItem 0 3000 500),
   some (liveItem 0 15 3), some (liveItem 0 15 8), some (liveItem 900 1300 1030),
   some (liveItem 0 7 2), some (liveItem 0 7 5), none,
   some (liveItem 0 30000 750), some (liveItem 0 30000 300), some (liveItem 1 500 40),
   some (liveItem 0 30000 40), some (liveItem 0 30000 15), some (liveItem 1 500 40)]

/-- The default points of the strapping tables (R101); a slot without one holds zeros. Log entry 3. -/
def strapDefaults : TankId → List Int
  | .water => [0, 0, 200, 300, 800, 1700, 1400, 2900]
  | .foam => [0, 0, 600, 150]

/-- The item of a strapping table at offset `k`: its count, then each slot's height and volume (R166). -/
def strapItem (t : TankId) (k : Nat) : ItemSpec :=
  match k with
  | 0 => parkedItem 2 12 (match t with | .water => 4 | .foam => 2)
  | j + 1 => parkedItem 0 (if j % 2 = 0 then 3000 else 30000) ((strapDefaults t).getD j 0)

/-- Items 200 to 208: filling, priming and accounting (R112). -/
def waterItems : List ItemSpec :=
  [liveItem 0 1000 100, liveItem 0 30000 2000, liveItem 0 30000 2600, liveItem 5 500 20,
   liveItem 5 300 30, liveItem 50 500 150, liveItem 10 90 45, liveItem 50 5000 200, liveItem 5 50 15]

/-- Items 210 to 219: the stop-states each line permits, and its default (R131). -/
def stopItems : List ItemSpec :=
  [parkedChoice [0] 0, parkedChoice [0, 2] 2, parkedChoice [0, 1, 2] 2, parkedChoice [0, 1, 2] 2,
   parkedChoice [0, 2] 2, parkedChoice [0, 1, 2] 1, parkedChoice [0] 0, parkedChoice [1, 2] 1,
   parkedChoice [0] 0, parkedChoice [0, 2] 0]

/-- The five items of a configurable entry (R36). Bit 2 of the action set, RELEASE_PTO, is not permitted. -/
def entryItems : List ItemSpec :=
  [parkedChoice [0, 4, 5, 6, 7, 8, 9, 10, 11] 0, ⟨.bits 15, 15, true⟩, ⟨.bits 59, 32, true⟩,
   parkedItem 0 1 0, parkedItem 0 10000 0]

/-- Items 340 to 343: rate index and node address of each port (R149). -/
def linkItems : List ItemSpec :=
  [parkedItem 0 3 2, parkedItem 1 30 1, parkedItem 0 3 2, parkedItem 1 30 1]

/-- The row of item `i`, or `none` where the table names no such item (R166). -/
def itemSpec (i : Nat) : Option ItemSpec :=
  if i < 20 then (if i = 0 then none else inputItems[i - 1]?)
  else if i < 32 then (if i = 23 then none else some (liveItem 0 1 0))
  else if i < 40 then none
  else if i < 52 then (if i = 43 then none else some (liveItem 5 500 20))
  else if i < 60 then none
  else if i < 70 then rollItems[i - 60]?
  else if i < 90 then ptoItems[i - 70]?
  else if i < 110 then governorItems[i - 90]?
  else if i < 140 then (levelItems[i - 110]?).join
  else if i < 170 then (if i - 140 < 25 then some (strapItem .water (i - 140)) else none)
  else if i < 200 then (if i - 170 < 25 then some (strapItem .foam (i - 170)) else none)
  else if i < 210 then waterItems[i - 200]?
  else if i < 220 then stopItems[i - 210]?
  else if i < 230 then some (liveItem 0 1 1)
  else if i < 240 then some (liveItem 0 7 3)
  else if i = 240 then some (liveItem 500 10000 2000)
  else if i < 256 then none
  else if i < 336 then entryItems[(i - 256) % 5]?
  else if i < 340 then none
  else linkItems[i - 340]?

/-- The item numbers, rising: the order of the values in the image (R171). -/
def itemNumbers : List Nat := (List.range 344).filter fun i => (itemSpec i).isSome

/-- Pcav is the one item whose range includes negative numbers, so it alone is two's complement (R166). -/
def signedItem (i : Nat) : Bool := i == 98

/-- The number that item `i`'s 16-bit value stands for (R166). -/
def itemValue (i : Nat) (v : Half) : Int := if signedItem i then v.toInt else (v.toNat : Int)

/-- Whether a value lies in a domain (R167, case 4). -/
def Domain.contains (d : Domain) (v : Int) : Bool :=
  match d with
  | .range lo hi => decide (lo ≤ v) && decide (v ≤ hi)
  | .oneOf codes => codes.contains v
  | .bits mask => decide (0 ≤ v) && (v.toNat &&& mask) == v.toNat

/-- Item `i`'s default, as a 16-bit value; 0 where the table names no such item. -/
def itemDefault (i : Nat) : Half :=
  match itemSpec i with
  | some r => BitVec.ofInt 16 r.deflt
  | none => 0

/-- The value of item `i` in a table: before the load, when the table is empty, its default. -/
def tableValue (live : List (Nat × Half)) (i : Nat) : Half :=
  match live.lookup i with
  | some v => v
  | none => itemDefault i

/-- The table with item `i` at value `v`. -/
def tableSet (live : List (Nat × Half)) (i : Nat) (v : Half) : List (Nat × Half) :=
  live.map fun e => if e.1 = i then (i, v) else e

/-- Item `i` as the blocks read it. -/
def State.cfg (s : State) (i : Nat) : Int := itemValue i (tableValue s.store.live i)

/-- A non-negative item, as a natural number. -/
def State.cfgN (s : State) (i : Nat) : Nat := (tableValue s.store.live i).toNat

/-- Whether the values `f` of the items keep the relation that item `i` belongs to (table of R167); an item
in no relation keeps it. -/
def relationKept (f : Nat → Int) (i : Nat) : Bool :=
  if i = 90 ∨ i = 91 ∨ i = 92 then decide (f 90 ≤ f 92) && decide (f 92 ≤ f 91)
  else if i = 102 ∨ i = 103 then decide (f 102 ≤ f 103 - 5)
  else if i = 130 ∨ i = 131 then decide (f 131 < f 130)
  else if i = 133 ∨ i = 134 then decide (f 134 < f 133)
  else if i = 201 ∨ i = 202 then decide (f 201 < f 202)
  else if i = 118 ∨ i = 119 ∨ i = 120 ∨ i = 121 then
    decide (f 118 < f 119) && decide (f 119 < f 120) && decide (f 120 < f 121)
  else if i = 122 ∨ i = 123 then decide (f 122 < f 123)
  else true

/-- One item of each relation of R167. -/
def relationHeads : List Nat := [90, 102, 130, 133, 201, 118, 122]

/-- The ten update settings of a table: the governor's shadow copy, which always holds the newest accepted
values (R74). -/
def State.shadow (s : State) : UpdateSettings :=
  ⟨s.cfg 90, s.cfg 91, s.cfg 92, s.cfg 93, s.cfg 94, s.cfg 95, s.cfg 96, s.cfg 97, s.cfg 98, s.cfg 99⟩

/-- The stop-state that a code of R166 names. -/
def stopStateOf (v : Int) : StopState := if v = 0 then .off else if v = 1 then .on else .keep

end Sys2Proof.Machine
end

