-- ==== Sys2Proof/Machine/Ops.lean ====
section
/-! DEFINITION. The operations every block shares: whole-block updates of the state, numbers as the frames
carry them, bounded counting, the passage of time, and the check of a frame (R160). -/

namespace Sys2Proof.Machine

/-! ## Updates of one block -/

/-- The state with its reset control changed by `f`. -/
def State.modCtl (f : ResetControl → ResetControl) (s : State) : State := { s with ctl := f s.ctl }

/-- The state with its pulse capture unit changed by `f`. -/
def State.modPulse (f : Pulse → Pulse) (s : State) : State := { s with pulse := f s.pulse }

/-- The state with its road channel changed by `f`. -/
def State.modRoad (f : Road → Road) (s : State) : State := { s with road := f s.road }

/-- The state with its analog sampling unit changed by `f`. -/
def State.modAnalog (f : Analog → Analog) (s : State) : State := { s with analog := f s.analog }

/-- The state with its discrete input unit changed by `f`. -/
def State.modDisc (f : Vector SwitchLine 12 → Vector SwitchLine 12) (s : State) : State :=
  { s with disc := f s.disc }

/-- The state with its interlock unit changed by `f`. -/
def State.modIlk (f : Interlock → Interlock) (s : State) : State := { s with ilk := f s.ilk }

/-- The state with its PTO context changed by `f`. -/
def State.modPto (f : Pto → Pto) (s : State) : State := { s with pto := f s.pto }

/-- The state with its governor changed by `f`. -/
def State.modGov (f : Governor → Governor) (s : State) : State := { s with gov := f s.gov }

/-- The state with its throttle-demand line changed by `f`. -/
def State.modPwm (f : Throttle → Throttle) (s : State) : State := { s with pwm := f s.pwm }

/-- The state with its tank monitor changed by `f`. -/
def State.modTank (f : TankMonitor → TankMonitor) (s : State) : State := { s with tank := f s.tank }

/-- The state with its output unit changed by `f`. -/
def State.modOut (f : Outputs → Outputs) (s : State) : State := { s with out := f s.out }

/-- The state with its authority arbiter changed by `f`. -/
def State.modAuth (f : Authority → Authority) (s : State) : State := { s with auth := f s.auth }

/-- The state with its links changed by `f`. -/
def State.modLinks (f : Links → Links) (s : State) : State := { s with links := f s.links }

/-- The state with its settings store changed by `f`. -/
def State.modStore (f : Store → Store) (s : State) : State := { s with store := f s.store }

/-- The state with output line `n` changed by `f`. -/
def State.modLine (n : Fin 10) (f : OutputLine → OutputLine) (s : State) : State :=
  s.modOut fun o => { o with lines := o.lines.set n (f o.lines[n]) }

/-- The state with lockout entry `n` changed by `f`. -/
def State.modEntry (n : Fin 32) (f : Entry → Entry) (s : State) : State :=
  s.modIlk fun k => { k with entries := k.entries.set n (f k.entries[n]) }

/-- The state with switch input `n` changed by `f`. -/
def State.modSwitch (n : Fin 12) (f : SwitchLine → SwitchLine) (s : State) : State :=
  s.modDisc fun d => d.set n (f d[n])

/-- The state with probe `i` changed by `f`. -/
def State.modProbe (i : Fin 6) (f : Probe → Probe) (s : State) : State :=
  s.modTank fun m => { m with probes := m.probes.set i (f m.probes[i]) }

/-- The record of a port. -/
def State.port (s : State) : Port → PortRecord
  | .a => s.links.a
  | .b => s.links.b

/-- The state with the record of port `p` changed by `f`. -/
def State.modPort (p : Port) (f : PortRecord → PortRecord) (s : State) : State :=
  s.modLinks fun l => match p with
    | .a => { l with a := f l.a }
    | .b => { l with b := f l.b }

/-- The record of a period channel. -/
def State.period (s : State) : PeriodCh → PeriodChannel
  | .eng => s.pulse.eng
  | .pump => s.pulse.pump
  | .flow => s.pulse.flow

/-- The state with the record of a period channel changed by `f`. -/
def State.modPeriod (ch : PeriodCh) (f : PeriodChannel → PeriodChannel) (s : State) : State :=
  s.modPulse fun p => match ch with
    | .eng => { p with eng := f p.eng }
    | .pump => { p with pump := f p.pump }
    | .flow => { p with flow := f p.flow }

/-- The record of a tank. -/
def State.tankOf (s : State) : TankId → Tank
  | .water => s.tank.water
  | .foam => s.tank.foam

/-- The state with the record of a tank changed by `f`. -/
def State.modTankOf (t : TankId) (f : Tank → Tank) (s : State) : State :=
  s.modTank fun m => match t with
    | .water => { m with water := f m.water }
    | .foam => { m with foam := f m.foam }

/-! ## Numbers -/

/-- `x` clamped into `lo` to `hi`. -/
def clampInt (lo hi x : Int) : Int := max lo (min x hi)

/-- A two-character field from a count; a count that does not fit is a free value (log entry 6). -/
def fitHalf (n : Nat) : Half := if n < 65536 then BitVec.ofNat 16 n else Config.oversize16 n

/-- A two-character field from a quantity, two's complement where it is negative. -/
def fitInt (x : Int) : Half := if 0 ≤ x then fitHalf x.toNat else BitVec.ofInt 16 x

/-- The high byte of a two-character field, which is sent first. -/
def hiByte (v : Half) : Byte := BitVec.ofNat 8 (v.toNat / 256)

/-- The low byte of a two-character field. -/
def loByte (v : Half) : Byte := BitVec.ofNat 8 v.toNat

/-- The two characters of a field, high byte first. -/
def halfBytes (v : Half) : List Byte := [hiByte v, loByte v]

/-- The field that two characters carry. -/
def ofBytes (hi lo : Byte) : Half := BitVec.ofNat 16 (hi.toNat * 256 + lo.toNat)

/-- A condition as one bit. -/
def bit (b : Bool) : Nat := if b then 1 else 0

/-- A character from a number below 256. -/
def byte (n : Nat) : Byte := BitVec.ofNat 8 n

/-- A signed count that holds at +32767 and at −32767 (R10, R14). -/
def saturate (x : Int) : Int := clampInt (-32767) 32767 x

/-! ## The check (R160) -/

/-- One shift of the check register, generator x¹⁶ + x¹² + x⁵ + 1. -/
def crcShift (r : Half) : Half :=
  if r.getLsbD 15 then (r <<< 1) ^^^ 0x1021#16 else r <<< 1

/-- The check register after one character, most significant bit first. -/
def crcByte (r : Half) (b : Byte) : Half :=
  let r0 := r ^^^ (BitVec.ofNat 16 b.toNat <<< 8)
  crcShift (crcShift (crcShift (crcShift (crcShift (crcShift (crcShift (crcShift r0)))))))

/-- The check over a list of characters; the register starts at all ones. -/
def crc16 (bs : List Byte) : Half := bs.foldl crcByte 0xFFFF#16

/-- The CRC of an image's values, each entering high byte first (R171). -/
def imageCrc (vals : List Half) : Half := crc16 (vals.flatMap halfBytes)

/-! ## The passage of time -/

/-- A timer after `n` more microseconds. One that has run down stands at 0 until its expiry is taken. -/
def tick (n : Micros) (t : Timer) : Timer := t.map (· - n)

/-- The state after `n` microseconds in which no command is taken. Every running timer runs down; while
supply-low holds, the blank and retry timers stand (R138). Log entry 1. -/
def elapse (n : Micros) (s : State) : State :=
  let low := s.analog.supplyLow
  { s with
    ctl := { s.ctl with supplyHold := tick n s.ctl.supplyHold }
    pulse := { s.pulse with
      timebase := s.pulse.timebase + BitVec.ofNat 32 n
      eng := { s.pulse.eng with stale := tick n s.pulse.eng.stale }
      pump := { s.pulse.pump with stale := tick n s.pulse.pump.stale }
      flow := { s.pulse.flow with stale := tick n s.pulse.flow.stale } }
    road := { s.road with gateTimer := tick n s.road.gateTimer }
    analog := { s.analog with sampleTimer := tick n s.analog.sampleTimer }
    disc := s.disc.map fun l => { l with debounce := tick n l.debounce }
    ilk := { s.ilk with
      entries := s.ilk.entries.map fun e => { e with delay := tick n e.delay }
      cadence := tick n s.ilk.cadence }
    pto := { s.pto with
      window := tick n s.pto.window
      hold := tick n s.pto.hold
      confirm := tick n s.pto.confirm
      stageTimer := tick n s.pto.stageTimer }
    gov := { s.gov with updateTimer := tick n s.gov.updateTimer }
    pwm := { s.pwm with left := tick n s.pwm.left }
    tank := { s.tank with
      levelTimer := tick n s.tank.levelTimer
      fillWindow := s.tank.fillWindow.map fun w => { w with left := w.left - n }
      runTimer := tick n s.tank.runTimer
      primeTimer := tick n s.tank.primeTimer }
    out := { s.out with
      lines := s.out.lines.map fun l => { l with
        blank := if low then l.blank else tick n l.blank
        retry := if low then l.retry else tick n l.retry
        mismatch := tick n l.mismatch } }
    auth := { s.auth with silence := tick n s.auth.silence }
    links := { a := { s.links.a with gap := tick n s.links.a.gap }
               b := { s.links.b with gap := tick n s.links.b.gap } } }

/-- The ten output lines, in order. -/
def allLines : List (Fin 10) := [0, 1, 2, 3, 4, 5, 6, 7, 8, 9]

/-- The 32 lockout entries, in order. -/
def allEntries : List (Fin 32) :=
  [0, 1, 2, 3, 4, 5, 6, 7, 8, 9, 10, 11, 12, 13, 14, 15,
   16, 17, 18, 19, 20, 21, 22, 23, 24, 25, 26, 27, 28, 29, 30, 31]

/-- The twelve switch inputs, in order. -/
def allSwitches : List (Fin 12) := [0, 1, 2, 3, 4, 5, 6, 7, 8, 9, 10, 11]

/-- The six probes, in order: W1 to W4, F1, F2. -/
def allProbes : List (Fin 6) := [0, 1, 2, 3, 4, 5]

end Sys2Proof.Machine
end

