-- ==== Sys2Proof/Machine/Reports.lean ====
section
/-! DEFINITION. Codes of table 10.1, the report records of R165, and the two report queues (R156). -/

namespace Sys2Proof.Machine

/-! ## Codes (table 10.1) -/

/-- Apparatus mode code. -/
def Mode.code : Mode → Nat
  | .road => 0 | .parked => 1 | .pump => 2 | .roll => 3

/-- PTO state code. -/
def PtoState.code : PtoState → Nat
  | .disengaged => 0 | .qualify => 1 | .engaging => 2 | .engaged => 3 | .releasing => 4 | .fault => 5

/-- PTO stage code. -/
def stageCode : Option Stage → Nat
  | none => 0 | some .spinDown => 1 | some .drop => 2

/-- Fault reason code. -/
def reasonCode : Option FaultReason → Nat
  | none => 0 | some .confirmTimeout => 1 | some .confirmLost => 2 | some .stuckEngaged => 3
  | some .solenoidFault => 4

/-- Abandon cause code. -/
def abandonCode : Option AbandonCause → Nat
  | none => 0 | some .parkBrake => 1 | some .neutral => 2 | some .moving => 3 | some .engineSpeed => 4
  | some .notHeld => 5 | some .lockout => 6 | some .released => 7 | some .solenoid => 8

/-- Governor state code. -/
def GovState.code : GovState → Nat
  | .off => 0 | .idle => 1 | .pressure => 2 | .speed => 3

/-- Station code. -/
def stationCode : Option Station → Nat
  | none => 0 | some .panel => 1 | some .cab => 2 | some .service => 3

/-- Entry state code. -/
def EntryState.code : EntryState → Nat
  | .clear => 0 | .pending => 1 | .active => 2 | .held => 3

/-- Tank status code. -/
def TankStatus.code : TankStatus → Nat
  | .normal => 0 | .clamped => 1 | .probesOnly => 2 | .unknown => 3

/-- Tank class code. -/
def TankClass.code : TankClass → Nat
  | .full => 0 | .normal => 1 | .low => 2 | .reserve => 3

/-- Probe state code. -/
def ProbeState.code : ProbeState → Nat
  | .dry => 0 | .wet => 1 | .fault => 2

/-- Diag state code. -/
def Diag.code : Diag → Nat
  | .ok => 0 | .blank => 1 | .faultOpen => 2 | .faultStuckOn => 3

/-- Fill mode code. -/
def FillMode.code : FillMode → Nat
  | .off => 0 | .manual => 1 | .auto => 2

/-- Primer outcome code. -/
def PrimerOutcome.code : PrimerOutcome → Nat
  | .none => 0 | .primed => 1 | .timeout => 2 | .stopped => 3

/-- The bit codes of a mode set. -/
def ModeSet.code (m : ModeSet) : Nat := bit m.road + 2 * bit m.parked + 4 * bit m.pump + 8 * bit m.roll

/-- The bit codes of an action set. -/
def ActionSet.code (a : ActionSet) : Nat :=
  bit a.inhibitDrive + 2 * bit a.inhibitPto + 4 * bit a.releasePto + 8 * bit a.forceIdle
    + 16 * bit a.limitRoad + 32 * bit a.alarm

/-- The mode set that bit codes name. -/
def modeSetOf (v : Nat) : ModeSet := ⟨v.testBit 0, v.testBit 1, v.testBit 2, v.testBit 3⟩

/-- The action set that bit codes name. -/
def actionSetOf (v : Nat) : ActionSet :=
  ⟨v.testBit 0, v.testBit 1, v.testBit 2, v.testBit 3, v.testBit 4, v.testBit 5⟩

/-- Whether a mode lies in a mode set. -/
def ModeSet.has (m : ModeSet) : Mode → Bool
  | .road => m.road | .parked => m.parked | .pump => m.pump | .roll => m.roll

/-- The kind code of a report (R165). -/
def ReportKey.kindCode : ReportKey → Nat
  | .lockout _ => 1 | .mode => 2 | .pto => 3 | .governor => 4 | .authority => 5 | .tank _ => 6
  | .output _ => 7 | .fill => 8 | .primer => 9 | .flowCheck => 10 | .settings => 11

/-- The subject of a report (R165). -/
def ReportKey.subject : ReportKey → Nat
  | .lockout n => n.val
  | .tank .water => 0
  | .tank .foam => 1
  | .output n => n.val
  | _ => 0

/-! ## Contents of the records, as their owners hold them now (R165) -/

/-- The setpoint in force: Ps in PRESSURE, Ns in SPEED, 0 in IDLE and OFF (R92). -/
def Governor.setpoint (g : Governor) : Int :=
  match g.state with
  | .pressure => g.ps
  | .speed => g.ns
  | _ => 0

/-- The governor flags' character (table 10.1). -/
def Governor.flags (g : Governor) : Nat :=
  bit g.cavitation + 2 * bit g.overpressure + 4 * bit g.fallback + 8 * bit g.capActive

/-- The content of a report under `k` at this moment. FLOW_CHECK and SETTINGS have no standing content:
their events give it. -/
def recordOf (s : State) : ReportKey → Record
  | .lockout n => ⟨byte s.ilk.entries[n].state.code, 0, byte (bit s.ilk.entries[n].silenced)⟩
  | .mode => ⟨byte s.ilk.mode.code, 0, 0⟩
  | .pto => ⟨byte s.pto.state.code, ofBytes (byte (stageCode s.pto.stage)) (byte (reasonCode s.pto.reason)),
      byte (abandonCode s.pto.abandon)⟩
  | .governor => ⟨byte s.gov.state.code, fitInt s.gov.setpoint, byte s.gov.flags⟩
  | .authority => ⟨byte (stationCode s.auth.holder), fitHalf (stationCode s.auth.claimant),
      byte (bit s.auth.lapsed)⟩
  | .tank t => ⟨byte (s.tankOf t).status.code, fitInt (s.tankOf t).vrep,
      byte ((s.tankOf t).cls.code + 4 * bit ((s.tankOf t).reason == some .table))⟩
  | .output n => ⟨byte s.out.lines[n].diag.code, fitHalf s.out.lines[n].retryCount,
      byte (bit s.out.lines[n].commanded + 2 * bit s.out.lines[n].effective)⟩
  | .fill => ⟨byte s.tank.fillMode.code, 0,
      byte (bit s.out.lines[4].commanded + 2 * bit s.tank.fillFault)⟩
  | .primer => ⟨byte (bit s.tank.priming), 0, byte s.tank.outcome.code⟩
  | .flowCheck => ⟨0, 0, 0⟩
  | .settings => ⟨0, 0, byte (bit s.store.defaultsInUse)⟩

/-! ## The queues (R156) -/

/-- A queue after a report: the entry with its key takes the new content in place and loses its carried
flag, or a new entry is appended. -/
def enqueue (k : ReportKey) (c : Record) (q : List ReportEntry) : List ReportEntry :=
  if q.any (fun e => e.key == k) then
    q.map fun e => if e.key = k then { e with content := c, carried := false } else e
  else q ++ [⟨k, c, false⟩]

/-- A port with queue `q`: its attention line is asserted while the queue holds an entry. -/
def PortRecord.withQueue (p : PortRecord) (q : List ReportEntry) : PortRecord :=
  { p with queue := q, attention := !q.isEmpty }

/-- A report placed in one port's queue. -/
def postPort (k : ReportKey) (c : Record) (p : PortRecord) : PortRecord := p.withQueue (enqueue k c p.queue)

/-- A report placed in both queues. -/
def post (k : ReportKey) (c : Record) (s : State) : State :=
  s.modLinks fun l => ⟨postPort k c l.a, postPort k c l.b⟩

/-- A report raised by the owner of `k` with the content it holds now. -/
def raise (k : ReportKey) (s : State) : State := post k (recordOf s k) s

end Sys2Proof.Machine
end

