-- ==== Sys2Proof/Machine/Lines.lean ====
section
/-! DEFINITION. The output unit's line operations (chapter 7): a new commanded level, the effective level of
R129, blanks, retries and the water class's override of FILL_VALVE. -/

namespace Sys2Proof.Machine

/-! The lines by name (table of R128). -/

/-- O0. -/
abbrev ptoSol : Fin 10 := 0
/-- O1. -/
abbrev driveEn : Fin 10 := 1
/-- O2. -/
abbrev thrLimit : Fin 10 := 2
/-- O3. -/
abbrev tankValveLine : Fin 10 := 3
/-- O4. -/
abbrev fillValve : Fin 10 := 4
/-- O5. -/
abbrev relief : Fin 10 := 5
/-- O6. -/
abbrev primerLine : Fin 10 := 6
/-- O7. -/
abbrev alarmLine : Fin 10 := 7
/-- O8. -/
abbrev foamEn : Fin 10 := 8
/-- O9. -/
abbrev pumpReady : Fin 10 := 9

/-- A line's diagnostic enable (items 220 to 229). -/
def State.diagEnabled (s : State) (n : Fin 10) : Bool := s.cfg (220 + n.val) == 1

/-- Blank times by index, in ms (R135). -/
def blankTimes : List Nat := [10, 20, 50, 100, 200, 500, 1000, 2000]

/-- A line's blank time (items 230 to 239). -/
def State.blankTime (s : State) (n : Fin 10) : Micros := ms (blankTimes.getD (s.cfgN (230 + n.val)) 100)

/-- Whether a line is in fault. -/
def Diag.faulty : Diag → Bool
  | .faultOpen | .faultStuckOn => true
  | .ok | .blank => false

/-- The effective level that R129 gives a line: O4 is off while the water class is FULL; in the stop hold a
line has its stop-state or its kept level; in a retry's OFF_PHASE it is off; otherwise it is as commanded. -/
def targetLevel (s : State) (n : Fin 10) : Bool :=
  let l := s.out.lines[n]
  if n = fillValve ∧ s.tank.water.cls = .full then false
  else if s.out.hold then
    match l.stopState with
    | .off => false
    | .on => true
    | .keep => l.kept.getD l.effective
  else if l.retryPhase = some .offPhase then false
  else l.commanded

/-- A blank begins on a line whose diagnostics are enabled and which is in OK or BLANK (R135). Under supply-low
its timer stands where it starts (R138, `elapse`). -/
def startBlank (n : Fin 10) (s : State) : State :=
  if !s.diagEnabled n || s.out.lines[n].diag.faulty then s
  else s.modLine n fun l => { l with diag := .blank, mismatch := none, blank := some (s.blankTime n) }

/-- What a change of the effective level begins (R135): a blank, or, while supply-low holds, the mark for one on
a line in OK (R138). -/
def levelChanged (n : Fin 10) (s : State) : State :=
  if !s.analog.supplyLow then startBlank n s
  else if s.diagEnabled n && s.out.lines[n].diag == .ok then
    s.modLine n fun l => { l with blankPending := true }
  else s

/-- The line takes the effective level of R129; a change begins a blank. -/
def drive (n : Fin 10) (s : State) : State :=
  let new := targetLevel s n
  if s.out.lines[n].effective = new then s
  else levelChanged n (s.modLine n fun l => { l with effective := new })

/-- A line whose retry has ended: its phase and its timers are discarded, and its count is kept. -/
def OutputLine.endRetry (l : OutputLine) : OutputLine :=
  if l.retryPhase.isSome then { l with retryPhase := none, retry := none, blank := none, mismatch := none }
  else l

/-- Whether a FAULT_OPEN line may begin a retry now (R136). -/
def retryDue (s : State) (n : Fin 10) : Bool :=
  let l := s.out.lines[n]
  l.diag == .faultOpen && l.retryPhase.isNone && !s.out.hold && l.commanded && decide (l.retryCount < 3)

/-- A retry begins, where one is due: the count rises, the line goes off, and the retry timer starts. -/
def beginRetry (n : Fin 10) (s : State) : State :=
  if retryDue s n then
    drive n (s.modLine n fun l => { l with
      retryCount := l.retryCount + 1, retryPhase := some .offPhase, retry := some (ms 1000)
      blank := none, mismatch := none })
  else s

/-- The owner of line `n` publishes a changed commanded level (R128, R129). A command of off ends a retry
(R136), and turns O1's kept level off in a stop hold (R133); a command of on may begin a retry. A level
that has not changed is not published. -/
def command (n : Fin 10) (on : Bool) (s : State) : State :=
  if s.out.lines[n].commanded = on then s
  else
    let s1 := s.modLine n fun l =>
      let l1 := { l with commanded := on }
      if on then l1
      else
        let l2 := l1.endRetry
        if n = driveEn ∧ l2.kept.isSome then { l2 with kept := some false } else l2
    beginRetry n (drive n s1)

/-- The output unit takes the publication of the water class (R129, R133). -/
def waterClassPublished (s : State) : State :=
  let s1 :=
    if s.tank.water.cls = .full ∧ s.out.lines[fillValve].kept.isSome then
      s.modLine fillValve fun l => { l with kept := some false }
    else s
  drive fillValve s1

/-- PUMP_READY (O9) is commanded on while the PTO is ENGAGED and the mode is PUMP or ROLL (R130). -/
def pumpReadyJudge (s : State) : State :=
  command pumpReady (s.pto.state == .engaged && (s.ilk.mode == .pump || s.ilk.mode == .roll)) s

/-- The lines of a stop hold that begins (R132, steps 1 to 3): each takes its stop-state into use, a KEEP
line records its effective level as its kept level (off for O4 while the class is FULL), and a retry ends. -/
def latchLine (n : Fin 10) (s : State) : State :=
  let stop := stopStateOf (s.cfg (210 + n.val))
  let full := decide (n = fillValve) && s.tank.water.cls == .full
  s.modLine n fun l => { l.endRetry with
    stopState := stop
    kept := if stop = .keep then some (l.effective && !full) else none }

/-- The output unit begins the stop hold (R132). -/
def holdLines (s : State) : State :=
  let s1 := allLines.foldl (fun s n => latchLine n s) s
  let s2 := s1.modOut fun o => { o with hold := true }
  allLines.foldl (fun s n => drive n s) s2

/-- The output unit ends the stop hold (R134, steps 1 to 3). -/
def releaseLines (s : State) : State :=
  let s1 := allLines.foldl (fun s n => s.modLine n fun l => { l with kept := none }) s
  let s2 := s1.modOut fun o => { o with hold := false }
  let s3 := allLines.foldl (fun s n => drive n s) s2
  allLines.foldl (fun s n => beginRetry n s) s3

/-- Supply-low is published present: mismatch timers are discarded; blank and retry timers stand where they
are for as long as it holds (R138, `elapse`). -/
def suspendDiagnostics (s : State) : State :=
  allLines.foldl (fun s n => s.modLine n fun l => { l with mismatch := none }) s

/-- A line's diagnostics resume (R138): a marked line begins a fresh blank, an unmarked line in OK whose
readback disagrees starts its mismatch timer, and so does a line in an ON_PHASE whose blank has ended. -/
def resumeLine (n : Fin 10) (s : State) : State :=
  let l := s.out.lines[n]
  let s1 := s.modLine n fun l => { l with blankPending := false }
  if l.diag = .ok ∧ l.blankPending then startBlank n s1
  else if s.diagEnabled n ∧ l.diag = .ok ∧ l.readback ≠ l.effective then
    s1.modLine n fun l => { l with mismatch := some (ms 100) }
  else if l.retryPhase = some .onPhase ∧ l.blank = none then
    s1.modLine n fun l => { l with mismatch := some (ms 100) }
  else s1

/-- Supply-low is published absent (R138). -/
def resumeDiagnostics (s : State) : State := allLines.foldl (fun s n => resumeLine n s) s

end Sys2Proof.Machine
end

