-- ==== Sys2Proof/Machine/Lockouts.lean ====
section
/-! DEFINITION. The lockout table's fixed and configured fields (R34, R36), the source of each entry, and
the set of actions in force (R43). -/

namespace Sys2Proof.Machine

/-- All four modes. -/
def allModes : ModeSet := ⟨true, true, true, true⟩

/-- PUMP and ROLL. -/
def pumpRoll : ModeSet := ⟨false, false, true, true⟩

/-- Item number of field `k` of configurable entry `n` (R166). -/
def entryItem (n : Fin 32) (k : Nat) : Nat := 256 + 5 * (n.val - 16) + k

/-- The mode set of an entry (R34, R36). -/
def entryModes (s : State) (n : Fin 32) : ModeSet :=
  match n.val with
  | 3 => pumpRoll
  | 4 => ⟨false, false, false, true⟩
  | 5 => ⟨false, false, false, true⟩
  | 6 => ⟨false, false, true, false⟩
  | 7 => ⟨false, false, true, false⟩
  | 8 => pumpRoll
  | 9 => pumpRoll
  | 14 => pumpRoll
  | k => if k < 16 then allModes else modeSetOf (s.cfgN (entryItem n 1))

/-- The action set of an entry (R34, R36). -/
def entryActions (s : State) (n : Fin 32) : ActionSet :=
  match n.val with
  | 0 => ⟨false, true, true, true, false, true⟩
  | 1 => ⟨false, true, false, false, false, true⟩
  | 2 => ⟨true, false, false, false, false, true⟩
  | 3 => ⟨false, false, false, true, false, true⟩
  | 4 => ⟨false, false, false, false, true, true⟩
  | 5 => ⟨false, false, true, false, false, true⟩
  | 6 => ⟨false, false, false, true, false, true⟩
  | 8 => ⟨false, false, false, true, false, true⟩
  | 9 => ⟨false, false, false, true, false, true⟩
  | k => if k < 16 then ⟨false, false, false, false, false, true⟩ else actionSetOf (s.cfgN (entryItem n 2))

/-- Whether an entry latches (R34, R36). -/
def entryLatches (s : State) (n : Fin 32) : Bool :=
  match n.val with
  | 0 => true
  | 3 => true
  | 5 => true
  | 6 => true
  | 12 => true
  | 13 => true
  | 14 => true
  | 15 => true
  | k => if k < 16 then false else s.cfg (entryItem n 3) == 1

/-- The assert delay of an entry, in ms; entry 3's is the slip time setting (R34). -/
def entryDelay (s : State) (n : Fin 32) : Nat :=
  match n.val with
  | 2 => 500
  | 3 => s.cfgN 76
  | 5 => 3000
  | 7 => 1000
  | 10 => 1000
  | k => if k < 16 then 0 else s.cfgN (entryItem n 4)

/-- The source code of a configurable entry: 0 for NONE, or 4 to 11 for its line. -/
def entrySource (s : State) (n : Fin 32) : Nat := s.cfgN (entryItem n 0)

/-- Whether a switch input is settled and active (R24). -/
def lineSource (s : State) (n : Fin 12) : Bool := s.disc[n].settled && s.disc[n].active

/-- The source of entry 11: an analog channel INVALID with its first-judged flag set, a probe in FAULT, a
probe-order fault or an invalid strapping table (R34, R110). -/
def sensorFault (s : State) : Bool :=
  [s.analog.dis, s.analog.int, s.analog.hwt, s.analog.hfm, s.analog.cas].any
      (fun c => !c.valid && c.firstJudged)
    || allProbes.any (fun p => s.tank.probes[p].state == .fault)
    || s.tank.water.orderFault || s.tank.foam.orderFault
    || !s.tank.water.tableValid || !s.tank.foam.tableValid

/-- Whether an entry's source is present (R34, R36). -/
def sourcePresent (s : State) (n : Fin 32) : Bool :=
  match n.val with
  | 0 => lineSource s 3
  | 1 => s.pto.state == .fault
  | 2 => lineSource s 2 && (s.pto.state == .disengaged || s.pto.state == .fault)
  | 3 => s.pto.slip
  | 4 => decide (s.cfg 61 < (s.road.speed.natAbs : Int))
  | 5 => decide (s.cfg 61 + s.cfg 62 < (s.road.speed.natAbs : Int))
  | 6 => decide (s.cfg 63 ≤ (s.road.creep.natAbs : Int))
  | 7 => s.disc[0].settled && !s.disc[0].active
  | 8 => s.tank.water.cls == .reserve && s.out.lines[tankValveLine].commanded && !s.tank.external
  | 9 => s.gov.casingHot
  | 10 => s.analog.supplyLow
  | 11 => sensorFault s
  | 12 => allLines.any fun l => s.out.lines[l].diag.faulty
  | 13 => s.store.defaultsInUse
  | 14 => s.auth.lapsed
  | 15 => s.tank.fillFault
  | _ =>
    let d := entrySource s n
    if h : 4 ≤ d ∧ d < 12 then lineSource s ⟨d, h.2⟩ else false

/-- Whether an entry's source is effective (R37). -/
def effective (s : State) (n : Fin 32) : Bool := sourcePresent s n && (entryModes s n).has s.ilk.mode

/-- Whether some entry in the active list carries an action (R43). -/
def inForce (s : State) (act : ActionSet → Bool) : Bool := s.ilk.active.any fun n => act (entryActions s n)

/-- The set of actions in force (R43): RELEASE_PTO is not part of it. -/
def actionsInForce (s : State) : ActionSet :=
  ⟨inForce s (·.inhibitDrive), inForce s (·.inhibitPto), false, inForce s (·.forceIdle),
   inForce s (·.limitRoad), inForce s (·.alarm)⟩

end Sys2Proof.Machine
end

