-- ==== Sys2Proof/Machine/Governor.lean ====
section
/-! DEFINITION. The pressure governor (chapter 4): bounds, duty, departure from and entry into OFF, the
periodic update, the answers to other blocks' publications, and casing protection. -/

namespace Sys2Proof.Machine

/-- Dmax (R81), from the working copy. -/
def dmaxOf (s : State) : Int :=
  let w := s.gov.work
  if inForce s (·.forceIdle) then w.nidle
  else if s.ilk.mode = .roll then min w.nmax w.rollCap
  else w.nmax

/-- The throttle duty (R86): 50 while OFF or in a stop hold, else formed from D. -/
def dutyOf (s : State) : Int :=
  match s.gov.state, s.gov.demand with
  | .off, _ => 50
  | _, none => 50
  | _, some d => if s.out.hold then 50 else 100 + ((d - 600) * 800).tdiv 2400

/-- The duty is computed afresh. -/
def setDuty (s : State) : State := s.modGov fun g => { g with duty := dutyOf s }

/-- The bounds are re-judged outside an update (R81): at a publication of the mode or of the set in force. -/
def rejudgeBounds (s : State) : State :=
  match s.gov.state, s.gov.demand with
  | .off, _ => s
  | _, none => s
  | _, some d =>
    let dm := dmaxOf s
    let cap := decide (dm < s.gov.work.nmax)
    let s1 := s.modGov fun g => { g with dmax := some dm, capActive := cap, demand := some (min d dm) }
    let s2 := if dm < d then setDuty s1 else s1
    if cap = s.gov.capActive then s2 else raise .governor s2

/-- The shadow is copied into the working copy, and Ns is clamped into its range (R74). A clamp that
changes Ns while the state is SPEED raises a report. -/
def transfer (s : State) : State :=
  let w := s.shadow
  let ns := clampInt w.nidle w.nmax s.gov.ns
  let s1 := s.modGov fun g => { g with work := w, ns := ns }
  if ns ≠ s.gov.ns ∧ s.gov.state = .speed then raise .governor s1 else s1

/-- The governor leaves OFF (R75). -/
def departOff (s : State) : State :=
  let s1 := transfer s
  let w := s1.gov.work
  let dm := dmaxOf s1
  let s2 := s1.modGov fun g => { g with
    state := .idle, demand := some w.nidle, dmax := some dm
    overpressure := false, fallback := false, cavitation := false
    capActive := decide (dm < w.nmax), updateTimer := some (ms 50) }
  raise .governor (setDuty s2)

/-- The governor enters OFF (R75): Ps and Ns are kept. -/
def enterOff (s : State) : State :=
  raise .governor (s.modGov fun g => { g with
    state := .off, demand := none, dmax := none, updateTimer := none, duty := 50
    cavitation := false, overpressure := false, fallback := false, capActive := false })

/-- The governor takes a publication of the PTO state (R75, R76); `prev` is the state before it. -/
def governorOnPto (prev : PtoState) (s : State) : State :=
  match s.pto.state with
  | .engaged => if s.gov.state = .off then departOff s else s
  | .releasing =>
    if s.gov.state = .off then departOff s
    else if prev ≠ .releasing ∧ s.gov.state ≠ .idle then
      raise .governor (s.modGov fun g => { g with state := .idle })
    else s
  | .disengaged | .fault => if s.gov.state = .off then s else enterOff s
  | .qualify | .engaging => s

/-- The governor takes a join notice that carries FORCE_IDLE (R77). -/
def governorForceIdle (s : State) : State :=
  if s.gov.state = .off then s
  else
    let s1 := s.modGov fun g => { g with state := .idle }
    rejudgeBounds (if s.gov.state = .idle then s1 else raise .governor s1)

/-- The cavitation flag as an update judges it (R84). -/
def judgeCavitation (s : State) (w : UpdateSettings) : Bool :=
  s.analog.int.valid &&
    (if s.gov.cavitation then decide (s.analog.int.value < w.pcav + 20)
     else decide (s.analog.int.value < w.pcav))

/-- The step of IDLE (R82). -/
def idleStep (w : UpdateSettings) (d : Int) : Int := -(min w.rdown (d - w.nidle))

/-- The step of SPEED (R82). -/
def speedStep (w : UpdateSettings) (dmin dmax ns d : Int) : Int :=
  clampInt (-w.rdown) w.rup (clampInt dmin dmax ns - d)

/-- The step of PRESSURE (R83) before overpressure is judged. -/
def pressureStep (w : UpdateSettings) (ps dis : Int) : Int :=
  let e := clampInt (-1000) 1000 (ps - dis)
  if (e.natAbs : Int) ≤ w.deadband then 0 else clampInt (-w.rdown) w.rup ((e * w.kg).tdiv 64)

/-- One update of the governor (R80), taken while it is not OFF and holds demand `d`. -/
def governorUpdate (d : Int) (s : State) : State :=
  let s1 := transfer s
  let w := s1.gov.work
  let dm := dmaxOf s1
  let cap := decide (dm < w.nmax)
  let cav := judgeCavitation s1 w
  let overp := s1.gov.state == .pressure && decide (s1.gov.ps + w.pover < s1.analog.dis.value)
  let step :=
    match s1.gov.state with
    | .pressure => if overp then -w.rdown else pressureStep w s1.gov.ps s1.analog.dis.value
    | .speed => speedStep w w.nidle dm s1.gov.ns d
    | _ => idleStep w d
  let braked := if cav && s1.gov.state != .idle then min step (-w.rcav) else step
  let s2 := setDuty (s1.modGov fun g => { g with
    dmax := some dm, capActive := cap, cavitation := cav, overpressure := overp
    demand := some (clampInt w.nidle dm (d + braked)), updateTimer := some (ms 50) })
  if cap = s1.gov.capActive ∧ cav = s1.gov.cavitation ∧ overp = s1.gov.overpressure then s2
  else raise .governor s2

/-- The governor takes a publication of DIS (R88): INVALID in PRESSURE makes the fallback to SPEED at D. -/
def governorOnDis (s : State) : State :=
  match s.gov.state, s.gov.demand with
  | .pressure, some d =>
    if s.analog.dis.valid then s
    else raise .governor (s.modGov fun g => { g with state := .speed, ns := d, fallback := true })
  | _, _ => s

/-- The RELIEF command and the casing hot condition at a publication of CAS (R89, R90, R91). -/
def casingJudge (s : State) : State :=
  let cas := s.analog.cas
  let hot :=
    if !cas.valid then false
    else if s.gov.casingHot then decide (s.cfg 103 - 8 < cas.value) else decide (s.cfg 103 ≤ cas.value)
  let open_ :=
    if !cas.valid then true
    else if s.out.lines[relief].commanded then decide (s.cfg 102 - 8 < cas.value)
    else decide (s.cfg 102 ≤ cas.value)
  command relief open_ (s.modGov fun g => { g with casingHot := hot })

end Sys2Proof.Machine
end

