-- ==== Sys2Proof/Machine/TankControl.lean ====
section
/-! DEFINITION. The tank monitor's control contexts (chapter 6): the reconciliation window, the FILL_VALVE
judgment and its progress window, the end of a primer run, and the two ends of a stop hold. -/

namespace Sys2Proof.Machine

/-- The five conditions of the reconciliation window (R125). -/
def reconConditions (s : State) : Bool :=
  s.pto.state == .engaged && s.out.lines[tankValveLine].commanded && !s.out.lines[fillValve].commanded
    && !s.tank.external && s.tank.water.status != .unknown

/-- The reconciliation window is judged (R125). It starts from the Vrep and the session total of the latest level
expiry; one opened at the arrival at ENGAGED starts from a total of 0. -/
def reconJudge (arrival : Bool) (s : State) : State :=
  match reconConditions s, s.tank.recon with
  | true, none => s.modTank fun m => { m with
      recon := some ⟨m.levelVrep, if arrival then 0 else m.sessionTotal⟩ }
  | false, some _ => s.modTank fun m => { m with recon := none }
  | _, _ => s

/-- A fresh progress window that starts from `vrep` (R120). -/
def freshWindow (vrep : Int) (s : State) : State :=
  s.modTank fun m => { m with fillWindow := some ⟨vrep, ms (1000 * s.cfgN 204)⟩ }

/-- What R119 commands of FILL_VALVE, on the reported volume `vrep`. -/
def fillTarget (vrep : Int) (s : State) : Bool :=
  let open_ := s.out.lines[fillValve].commanded
  if s.tank.water.cls = .full then false
  else
    match s.tank.fillMode with
    | .off => false
    | .manual => true
    | .auto =>
      if open_ then !(decide (s.cfg 202 ≤ vrep) || !s.tank.external)
      else decide (vrep ≤ s.cfg 201) && s.tank.external

/-- The FILL_VALVE command takes the level `on`: its progress window starts, outside a stop hold, from the Vrep of
the latest level expiry, or is discarded (R119, R120), and the reconciliation conditions are judged. -/
def setFill (on : Bool) (s : State) : State :=
  if s.out.lines[fillValve].commanded = on then s
  else
    let s1 := command fillValve on s
    let s2 :=
      if on && !s.out.hold then freshWindow s1.tank.levelVrep s1
      else s1.modTank fun m => { m with fillWindow := none }
    reconJudge false s2

/-- The FILL_VALVE command is judged on the reported volume `vrep` (R119). A manual fill is complete at class FULL.
A change of the command or of the mode raises one FILL report. -/
def fillJudgeOn (vrep : Int) (s : State) : State :=
  let done := s.tank.water.cls == .full && s.tank.fillMode == .manual
  let s1 := if done then s.modTank fun m => { m with fillMode := .off } else s
  let s2 := setFill (fillTarget vrep s) s1
  if done || s2.out.lines[fillValve].commanded != s.out.lines[fillValve].commanded then raise .fill s2 else s2

/-- The FILL_VALVE command is judged on the Vrep of the latest level expiry (R119). -/
def fillJudge (s : State) : State := fillJudgeOn s.tank.levelVrep s

/-- A primer run ends with an outcome (R123); in IDLE there is no run to end. -/
def primerEnd (o : PrimerOutcome) (s : State) : State :=
  if s.tank.priming then
    raise .primer (command primerLine false (s.modTank fun m => { m with
      priming := false, outcome := o, runTimer := none, primeTimer := none }))
  else s

/-- Whether DIS stands at the prime pressure (R122, R123). -/
def primePressure (s : State) : Bool :=
  s.analog.dis.valid && decide (s.cfg 205 ≤ s.analog.dis.value)

/-- The tank monitor takes a publication of DIS while the primer runs (R123). -/
def primerOnDis (s : State) : State :=
  if !s.tank.priming then s
  else if primePressure s then
    if s.tank.primeTimer.isSome then s else s.modTank fun m => { m with primeTimer := some (ms 1000) }
  else s.modTank fun m => { m with primeTimer := none }

/-- The tank monitor takes a publication of the PTO state (R117, R123, R125). -/
def tankOnPto (prev : PtoState) (s : State) : State :=
  let s1 := if s.pto.state = .engaged then s else primerEnd .stopped (command foamEn false s)
  reconJudge (s.pto.state == .engaged && prev != .engaged) s1

/-- The stop hold begins: the lines take their stop-states, the duty becomes 50, a primer run ends, the
progress window is discarded and FILL_VALVE is judged (R132). -/
def holdBegin (s : State) : State :=
  let s1 := setDuty (holdLines s)
  let s2 := (primerEnd .stopped s1).modTank fun m => { m with fillWindow := none }
  fillJudge s2

/-- The stop hold ends: the lines take their owners' commands, the duty is computed from D, and FILL_VALVE
is judged, with a fresh progress window if it stands open (R134). -/
def holdEnd (s : State) : State :=
  let s1 := fillJudge (setDuty (releaseLines s))
  if s1.out.lines[fillValve].commanded then freshWindow s1.tank.levelVrep s1 else s1

end Sys2Proof.Machine
end

