-- ==== Sys2Proof/Machine/Interlock.lean ====
section
/-! DEFINITION. The interlock unit (chapter 2): the states of a lockout entry (R38 to R41), joins and leaves
of the active list, the unit's own three lines (R49 to R51), and the apparatus mode (R25 to R32). -/

namespace Sys2Proof.Machine

/-- DRIVE_EN and THR_LIMIT are recomputed (R49, R50). -/
def interlockLines (s : State) : State :=
  let s1 := command driveEn (s.ilk.mode != .pump && !inForce s (·.inhibitDrive)) s
  command thrLimit (inForce s1 (·.limitRoad)) s1

/-- Whether ALARM sounds: an entry in the list carries ALARM and is not silenced (R51). -/
def sounding (s : State) : Bool :=
  s.ilk.active.any fun n => (entryActions s n).alarm && !s.ilk.entries[n].silenced

/-- The sounding condition is judged (R51). It stands for as long as the cadence timer runs. -/
def alarmJudge (s : State) : State :=
  match sounding s, s.ilk.cadence with
  | true, none => command alarmLine true (s.modIlk fun k => { k with cadence := some (ms 500) })
  | false, some _ => command alarmLine false (s.modIlk fun k => { k with cadence := none })
  | _, _ => s

/-- The active list has changed (R43): the unit's lines and the alarm are recomputed, and a changed set in
force is published, on which the governor re-judges its bounds (R81). -/
def listChanged (before : ActionSet) (s : State) : State :=
  let s1 := alarmJudge (interlockLines s)
  if actionsInForce s1 = before then s1 else rejudgeBounds s1

/-- Whether a join of this entry gives a notice to some block (R44). -/
def givesNotice (n : Fin 32) (a : ActionSet) : Bool :=
  a.releasePto || a.inhibitPto || a.forceIdle || n == 0

/-- An entry becomes ACTIVE and joins the list at its end (R38, R39, R42), with its report (R45) and its
join notice (R44). -/
def join (n : Fin 32) (s : State) : State :=
  let before := actionsInForce s
  let a := entryActions s n
  let s1 := (s.modEntry n fun _ => ⟨.active, none, false⟩).modIlk fun k =>
    { k with active := k.active ++ [n] }
  let s2 := listChanged before (raise (.lockout n) s1)
  if givesNotice n a then s2.modIlk fun k => { k with notices := k.notices ++ [⟨n, a⟩] } else s2

/-- An entry becomes CLEAR and leaves the list (R40, R41, R42), with its report; entry 0's leave ends the
stop hold (R44, R134). The manual gives no order between the alarm's judgment at a leave and the leave notice; the
model judges the alarm first (log entry 5), so that an ALARM whose sounding ends with entry 0 is commanded off
before the retries of R134 are judged. -/
def leave (n : Fin 32) (s : State) : State :=
  let before := actionsInForce s
  let s1 := (s.modEntry n fun _ => ⟨.clear, none, false⟩).modIlk fun k =>
    { k with active := k.active.filter (fun m => m != n) }
  let s2 := listChanged before (raise (.lockout n) s1)
  if n = 0 then holdEnd s2 else s2

/-- An entry's source is re-judged (R35, R37): its state moves as R38 to R41 give it. -/
def judge (n : Fin 32) (s : State) : State :=
  match s.ilk.entries[n].state, effective s n with
  | .clear, true =>
    if entryDelay s n = 0 then join n s
    else s.modEntry n fun e => { e with state := .pending, delay := some (ms (entryDelay s n)) }
  | .pending, false => s.modEntry n fun e => { e with state := .clear, delay := none }
  | .active, false =>
    if entryLatches s n then raise (.lockout n) (s.modEntry n fun e => { e with state := .held })
    else leave n s
  | .held, true => raise (.lockout n) (s.modEntry n fun e => { e with state := .active })
  | _, _ => s

/-- Every entry is re-judged, in order (R25, R37). -/
def judgeAll (s : State) : State := allEntries.foldl (fun s n => judge n s) s

/-- The configurable entries that name switch input `n` are re-judged (R35), from 16 up to 31: the model's order,
log entry 5. -/
def judgeLine (n : Fin 12) (s : State) : State :=
  (allEntries.filter fun k => decide (16 ≤ k.val) && entrySource s k == n.val).foldl (fun s k => judge k s) s

/-- The mode becomes `m` (R25): on an entry into PUMP the creep counter is zeroed (R14, R27); every entry is
re-judged, DRIVE_EN is recomputed and a MODE report is raised. The governor then re-judges its bounds and
the output unit its PUMP_READY command. -/
def setMode (m : Mode) (s : State) : State :=
  let s1 := s.modIlk fun k => { k with mode := m }
  let s2 := if m = .pump then s1.modRoad fun r => { r with creep := 0 } else s1
  let s3 := raise .mode (interlockLines (judgeAll s2))
  pumpReadyJudge (rejudgeBounds s3)

/-- The park brake as the mode machine reads it: an unsettled line reads inactive (R24, R26). -/
def parkBrake (s : State) : Bool := s.disc[0].active

/-- The mode is judged at a publication of the park brake or of standstill (R26, R32). -/
def modeJudge (s : State) : State :=
  match s.ilk.mode with
  | .road => if parkBrake s && s.road.standstill then setMode .parked s else s
  | .parked => if !parkBrake s && s.pto.state == .disengaged then setMode .road s else s
  | .roll => if parkBrake s && s.road.standstill then setMode .pump s else s
  | .pump => s

/-- The mode is judged at a change of the PTO state (R26, R27, R28). -/
def modeOnPto (s : State) : State :=
  match s.pto.state, s.ilk.mode with
  | .engaged, .pump => s
  | .engaged, _ => setMode .pump s
  | .disengaged, .pump => setMode (if parkBrake s then .parked else .road) s
  | .disengaged, .roll => setMode (if parkBrake s then .parked else .road) s
  | .fault, .pump => setMode (if parkBrake s then .parked else .road) s
  | .fault, .roll => setMode (if parkBrake s then .parked else .road) s
  | _, .road => modeJudge s
  | _, .parked => modeJudge s
  | _, _ => s

/-- The interlock unit takes a publication of the PTO controller: the mode at a change of state, then the
sources of entries 1, 2 and 3 (R35). -/
def interlockOnPto (prev : PtoState) (s : State) : State :=
  let s1 := if s.pto.state = prev then s else modeOnPto s
  judge 3 (judge 2 (judge 1 s1))

end Sys2Proof.Machine
end

