-- ==== Sys2Proof/Machine/Arbiter.lean ====
section
/-! DEFINITION. The authority arbiter's shared operations (chapter 8): the station of a frame, the passing of
authority to a claimant, and its answers to other blocks' events. -/

namespace Sys2Proof.Machine

/-- The operator station of a port (R140). -/
def operatorStation : Port → Station
  | .a => .panel
  | .b => .cab

/-- The station of a frame (R140). -/
def stationOf (p : Port) : Origin → Station
  | .operator => operatorStation p
  | .service => .service

/-- The silence time (item 240). -/
def State.silenceTime (s : State) : Micros := ms (s.cfgN 240)

/-- The holder gives up its right (R143, R145 steps 1 and 2): the claimant becomes holder with a fresh
silence timer, or the holder becomes NONE. A SERVICE claim is handed authority only while the PTO state is
DISENGAGED, and is withdrawn otherwise. -/
def passOn (s : State) : State :=
  let none_ := s.modAuth fun a => { a with holder := none, claimant := none, servicePort := none, silence := none }
  match s.auth.claimant with
  | none => none_
  | some .service =>
    if s.pto.state = .disengaged then
      s.modAuth fun a => { a with holder := some .service, claimant := none, silence := some s.silenceTime }
    else none_
  | some c => s.modAuth fun a => { a with
      holder := some c, claimant := none, servicePort := none, silence := some s.silenceTime }

/-- The claim is withdrawn, with the service port if the claimant was SERVICE (R143, R146). -/
def withdrawClaim (s : State) : State :=
  s.modAuth fun a => { a with
    claimant := none, servicePort := if a.claimant = some .service then none else a.servicePort }

/-- The arbiter takes a frame assigned to station `st` (R144, R145): one from the holder starts the silence
timer afresh and ends the authority-lapsed condition, with the AUTHORITY report before entry 14's (log entry 5). -/
def arbiterFrame (st : Station) (s : State) : State :=
  if s.auth.holder = some st then
    let s1 := s.modAuth fun a => { a with silence := some s.silenceTime, lapsed := false }
    if s.auth.lapsed then judge 14 (raise .authority s1) else s1
  else s

/-- The arbiter takes a publication of the PTO state (R146): a SERVICE claim is withdrawn outside
DISENGAGED. -/
def arbiterOnPto (s : State) : State :=
  if s.pto.state ≠ .disengaged ∧ s.auth.claimant = some .service then
    raise .authority (withdrawClaim s)
  else s

/-- Whether a station's right or claim is tied to port `p` (R146). -/
def tiedTo (p : Port) (who : Option Station) (servicePort : Option Port) : Bool :=
  who == some (operatorStation p) || (who == some .service && servicePort == some p)

/-- The arbiter acts on a Link Restart taken on port `p` (R146): a claim from the port is withdrawn first,
then authority held from it is passed on. -/
def arbiterRestart (p : Port) (s : State) : State :=
  let claim := tiedTo p s.auth.claimant s.auth.servicePort
  let held := tiedTo p s.auth.holder s.auth.servicePort
  let s1 := if claim then withdrawClaim s else s
  let s2 := if held then passOn s1 else s1
  if claim || held then raise .authority s2 else s2

end Sys2Proof.Machine
end

