-- ==== Sys2Proof/Machine/PtoControl.lean ====
section
/-! DEFINITION. The PTO controller (chapter 3): the publication of its state to the blocks that read it
(R55), its entries into each state, its judgments, and the taking of join notices. -/

namespace Sys2Proof.Machine

/-- The pulse capture unit takes the arrival at ENGAGED (R8): the flow pulse counter is zeroed. -/
def pulseOnPto (prev : PtoState) (s : State) : State :=
  if s.pto.state = .engaged ∧ prev ≠ .engaged then s.modPulse fun p => { p with flowCount := 0 } else s

/-- The PTO controller publishes its state, raises a PTO report, and the readers of R55 take the
publication in the order R55 lists them. Log entry 5. -/
def ptoPublish (prev : PtoState) (s : State) : State :=
  let s1 := interlockOnPto prev (raise .pto s)
  let s2 := pumpReadyJudge (governorOnPto prev s1)
  arbiterOnPto (pulseOnPto prev (tankOnPto prev s2))

/-- The context with every timer of a state or stage discarded (R53). -/
def Pto.noTimers (p : Pto) : Pto :=
  { p with window := none, hold := none, confirm := none, stageTimer := none, failing := none }

/-- The state becomes DISENGAGED, with the abandon cause of a qualification given up (R58, R59, R67, R70). -/
def enterDisengaged (cause : Option AbandonCause) (s : State) : State :=
  ptoPublish s.pto.state (command ptoSol false (s.modPto fun p => { p.noTimers with
    state := .disengaged, stage := none, reason := none, abandon := cause, slip := false }))

/-- The state becomes FAULT (R70). -/
def enterFault (r : FaultReason) (s : State) : State :=
  ptoPublish s.pto.state (command ptoSol false (s.modPto fun p => { p.noTimers with
    state := .fault, stage := none, reason := some r, abandon := none, slip := false }))

/-- The DROP stage of RELEASING begins (R67); PTO_CONFIRM is judged at the entry. -/
def enterDrop (s : State) : State :=
  let s1 := ptoPublish s.pto.state (command ptoSol false (s.modPto fun p => { p.noTimers with
    state := .releasing, stage := some .drop, reason := none, abandon := none, slip := false
    stageTimer := some (ms (s.cfgN 79)) }))
  if s1.disc[2].active then s1 else enterDisengaged none s1

/-- The SPIN_DOWN stage of RELEASING begins (R66); the engine speed is judged at the entry. -/
def enterSpinDown (s : State) : State :=
  let s1 := ptoPublish s.pto.state (s.modPto fun p => { p.noTimers with
    state := .releasing, stage := some .spinDown, reason := none, abandon := none, slip := false
    stageTimer := some (ms (s.cfgN 77)) })
  if s1.pulse.eng.rate ≤ s1.cfgN 78 then enterDrop s1 else s1

/-- The state becomes ENGAGED (R61). -/
def enterEngaged (s : State) : State :=
  ptoPublish s.pto.state (s.modPto fun p => { p.noTimers with
    state := .engaged, stage := none, reason := none, abandon := none, slip := false })

/-- The pump-shaft speed that the present engine speed calls for (R60, R63). -/
def expectedSpeed (s : State) : Nat := s.pulse.eng.rate * s.cfgN 74 / 1000

/-- The confirm threshold (R60). -/
def confirmThreshold (s : State) : Nat := expectedSpeed s * (1000 - s.cfgN 75) / 1000

/-- Confirmation is judged in ENGAGING (R60, R61). -/
def judgeConfirm (s : State) : State :=
  if s.disc[2].active = true ∧ confirmThreshold s ≤ s.pulse.pump.rate then enterEngaged s else s

/-- The state becomes ENGAGING (R58): PTO_SOL is commanded on, the confirm timer starts, and confirmation is
judged at the entry. -/
def enterEngaging (s : State) : State :=
  let s1 := ptoPublish s.pto.state (command ptoSol true (s.modPto fun p => { p.noTimers with
    state := .engaging, stage := none, reason := none, abandon := none
    confirm := some (ms (s.cfgN 73)) }))
  judgeConfirm s1

/-- The first qualify condition that is false (R58), on the engage limit as it stands in the settings: a limit
written in QUALIFY is used at the next judgment, whichever publication calls for it (R54, log entry 37). -/
def failingCondition (s : State) : Option AbandonCause :=
  if !s.disc[0].active then some .parkBrake
  else if !s.disc[1].active then some .neutral
  else if !s.road.standstill then some .moving
  else if s.cfgN 72 < s.pulse.eng.rate then some .engineSpeed
  else none

/-- The context after a judgment of the qualify conditions (R58). -/
def Pto.qualified (p : Pto) (failing : Option AbandonCause) (holdTime : Micros) : Pto :=
  { p with
    failing := failing
    hold := if failing.isSome then none else if p.hold.isSome then p.hold else some holdTime }

/-- The qualify conditions are judged in QUALIFY (R58). -/
def judgeQualify (s : State) : State :=
  s.modPto fun p => p.qualified (failingCondition s) (ms (s.cfgN 71))

/-- The slip check of R63, taken in ENGAGED at a publication of pump-shaft speed. -/
def slipCheck (s : State) : State :=
  if s.pulse.eng.rate < 500 then s
  else
    let expected := expectedSpeed s
    let slip := (expected - s.pulse.pump.rate) * 1000 / expected
    let now := decide (s.cfgN 75 < slip)
    if now = s.pto.slip then s else judge 3 (s.modPto fun p => { p with slip := now })

/-- The PTO controller takes a publication of engine speed (R58, R60, R66). -/
def ptoOnEngine (s : State) : State :=
  match s.pto.state, s.pto.stage with
  | .qualify, _ => judgeQualify s
  | .engaging, _ => judgeConfirm s
  | .releasing, some .spinDown => if s.pulse.eng.rate ≤ s.cfgN 78 then enterDrop s else s
  | _, _ => s

/-- The PTO controller takes a publication of pump-shaft speed (R60, R63). -/
def ptoOnPump (s : State) : State :=
  match s.pto.state with
  | .engaging => judgeConfirm s
  | .engaged => slipCheck s
  | _ => s

/-- The PTO controller takes a publication of the park brake, of neutral or of standstill (R58). -/
def ptoOnQualifier (s : State) : State :=
  if s.pto.state = .qualify then judgeQualify s else s

/-- The PTO controller takes a publication of PTO_CONFIRM (R60, R64, R67). -/
def ptoOnConfirm (s : State) : State :=
  match s.pto.state, s.pto.stage with
  | .engaging, _ => judgeConfirm s
  | .engaged, _ => if s.disc[2].active then s else enterFault .confirmLost s
  | .releasing, some .drop => if s.disc[2].active then s else enterDisengaged none s
  | _, _ => s

/-- The PTO controller takes a publication of O0 in FAULT_OPEN or FAULT_STUCK_ON (R69). -/
def ptoOnSolenoidFault (s : State) : State :=
  match s.pto.state, s.pto.stage with
  | .engaging, _ => enterFault .solenoidFault s
  | .engaged, _ => enterFault .solenoidFault s
  | .qualify, _ => enterDisengaged (some .solenoid) s
  | .releasing, some .spinDown => enterDrop s
  | _, _ => s

/-- The PTO controller takes a join notice that carries INHIBIT_PTO or RELEASE_PTO (R59, R62, R64, R65,
R68). -/
def ptoOnNotice (x : Notice) (s : State) : State :=
  match s.pto.state, s.pto.stage with
  | .qualify, _ => enterDisengaged (some .lockout) s
  | .engaging, _ => if x.entry = 0 then enterDrop s else enterSpinDown s
  | .engaged, _ =>
    if x.entry = 0 then enterDrop s else if x.actions.releasePto then enterSpinDown s else s
  | .releasing, some .spinDown => if x.entry = 0 then enterDrop s else s
  | _, _ => s

/-- A join notice is taken by the blocks R44 names, in the order R44 names them. Log entry 5. -/
def takeNotice (x : Notice) (s : State) : State :=
  let s1 := if x.actions.releasePto || x.actions.inhibitPto then ptoOnNotice x s else s
  let s2 := if x.actions.forceIdle then governorForceIdle s1 else s1
  if x.entry = 0 then holdBegin s2 else s2

/-- At most `k` waiting join notices are taken, oldest first; none is left. -/
def takeNotices : Nat → State → State
  | 0, s => s.modIlk fun k => { k with notices := [] }
  | k + 1, s =>
    match s.ilk.notices with
    | [] => s
    | x :: rest => takeNotices k (takeNotice x (s.modIlk fun k => { k with notices := rest }))

/-- A bound on the join notices of one command, above what any run reaches. Log entry 9. -/
def noticeBound : Nat := 256

/-- The end of a command: the join notices given in it are taken (R44). -/
def settle (s : State) : State := takeNotices noticeBound s

end Sys2Proof.Machine
end

