-- ==== Sys2Proof/Machine/Pulses.lean ====
section
/-! DEFINITION. The pulse capture unit's commands (sections 1.2 and 1.4): PERIOD_EDGE, STALE_TIMER_EXPIRY,
ROAD_EDGE and GATE_TIMER_EXPIRY. -/

namespace Sys2Proof.Machine

/-- Whether the blocks are in service: start-up is complete and no hold stands (R172). -/
def State.inService (s : State) : Bool := s.ctl.startup == .running

/-- The first settings item of a period channel: minimum period, averaging N, stale time, and ppr or K. -/
def periodBase : PeriodCh → Nat
  | .eng => 1
  | .pump => 5
  | .flow => 9

/-- Whether an edge stamped `now` is accepted (R3). -/
def edgeAccepted (history : List Stamp) (minimum : Nat) (now : Stamp) : Bool :=
  match history.getLast? with
  | none => true
  | some last => decide (minimum ≤ (now - last).toNat)

/-- A history after an accepted stamp, trimmed to its newest N+1 (R4). -/
def pushStamp (history : List Stamp) (n : Nat) (now : Stamp) : List Stamp :=
  let h := history ++ [now]
  h.drop (h.length - (n + 1))

/-- The time a history spans: the modular difference of its newest and oldest stamps (R4). -/
def spanOf (history : List Stamp) : Nat :=
  match history.head?, history.getLast? with
  | some a, some b => (b - a).toNat
  | _, _ => 0

/-- The rate that a history of two or more stamps gives (R5, R6); `k` is ppr or K. -/
def rateOf (ch : PeriodCh) (history : List Stamp) (k : Nat) : Nat :=
  let periods := history.length - 1
  let scale := match ch with | .flow => 100 | _ => 1
  min 9999 (60000000 * periods * scale / (spanOf history * k))

/-- The consumers of a period channel's publication act on it (R1, R5). -/
def ratePublished (ch : PeriodCh) (s : State) : State :=
  match ch with
  | .eng => ptoOnEngine s
  | .pump => ptoOnPump s
  | .flow => s

/-- An edge on a period channel is stamped with the timebase, and judged (R3, R4). -/
def periodEdge (ch : PeriodCh) (s : State) : State :=
  let c := s.period ch
  let now := s.pulse.timebase
  if !s.inService || !edgeAccepted c.history (s.cfgN (periodBase ch)) now then s
  else
    let h := pushStamp c.history (s.cfgN (periodBase ch + 1)) now
    let s1 := s.modPeriod ch fun c => { c with history := h, stale := some (ms (s.cfgN (periodBase ch + 2))) }
    let s2 := if ch = .flow then s1.modPulse fun p => { p with flowCount := p.flowCount + 1 } else s1
    if 2 ≤ h.length then
      ratePublished ch (s2.modPeriod ch fun c => { c with rate := rateOf ch h (s.cfgN (periodBase ch + 3)) })
    else s2

/-- PERIOD_EDGE: a rising edge on ENG, PUMP or FLOW (R3 to R6, R8). -/
def execPeriodEdge (ch : PeriodCh) (s : State) : Host.Outcome State Fault Refusal :=
  .next (settle (periodEdge ch s))

/-- STALE_TIMER_EXPIRY: the channel empties its history and publishes a rate of 0 (R7). -/
def execStaleTimerExpiry (ch : PeriodCh) (s : State) : Host.Outcome State Fault Refusal :=
  if (s.period ch).stale.isNone then .next s
  else .next (settle (ratePublished ch (s.modPeriod ch fun _ => ⟨[], 0, none⟩)))

/-- The count of one edge (table of R11): `rising` is the edge's direction, `other` the level of the other
phase. -/
def roadCount (ph : RoadPhase) (rising other : Bool) : Int :=
  match ph, rising, other with
  | .a, true, false => 1
  | .a, true, true => -1
  | .a, false, true => 1
  | .a, false, false => -1
  | .b, true, true => 1
  | .b, true, false => -1
  | .b, false, false => 1
  | .b, false, true => -1

/-- The level of one phase turns over. -/
def flipPhase (ph : RoadPhase) (r : Road) : Road :=
  match ph with
  | .a => { r with phaseA := !r.phaseA }
  | .b => { r with phaseB := !r.phaseB }

/-- The count of an edge on `ph`, with the phases standing as `r` has them before it. -/
def edgeCount (ph : RoadPhase) (r : Road) : Int :=
  match ph with
  | .a => roadCount .a (!r.phaseA) r.phaseB
  | .b => roadCount .b (!r.phaseB) r.phaseA

/-- ROAD_EDGE: the phase's level turns over, and in service the edge is counted into the gate counter and
the creep counter (R11, R14). -/
def execRoadEdge (ph : RoadPhase) (s : State) : Host.Outcome State Fault Refusal :=
  let c := edgeCount ph s.road
  let s1 := s.modRoad (flipPhase ph)
  if !s.inService then .next s1
  else .next (settle (judge 6 (s1.modRoad fun r =>
    { r with gate := saturate (r.gate + c), creep := saturate (r.creep + c) })))

/-- The road speed that a gate count gives (R12). -/
def roadSpeed (delta perHundred : Int) : Int := clampInt (-1500) 1500 ((delta * 14400).tdiv perHundred)

/-- The road channel after a gate closes (R12, R13). -/
def Road.gateClosed (r : Road) (perHundred : Int) : Road :=
  let speed := roadSpeed r.gate perHundred
  let run := if speed = 0 then min 4 (r.zeroRun + 1) else 0
  { r with
    speed := speed, gate := 0, zeroRun := run
    standstill := decide (speed = 0) && (r.standstill || run == 4)
    gateTimer := some (ms 250) }

/-- Standstill is published: the mode machine and the PTO controller act on it (R13). -/
def standstillPublished (s : State) : State := ptoOnQualifier (modeJudge s)

/-- GATE_TIMER_EXPIRY: road speed and standstill are judged and published (R12, R13). -/
def execGateTimerExpiry (s : State) : Host.Outcome State Fault Refusal :=
  if s.road.gateTimer.isNone then .next s
  else
    let s1 := judge 5 (judge 4 (s.modRoad fun r => r.gateClosed (s.cfg 13)))
    .next (settle (if s1.road.standstill = s.road.standstill then s1 else standstillPublished s1))

end Sys2Proof.Machine
end

