-- ==== Sys2Proof/Machine/AnalogUnit.lean ====
section
/-! DEFINITION. The analog sampling unit's command, SAMPLE_TIMER_EXPIRY (sections 1.6 and 1.8), with the
judgments other blocks make on what it publishes. -/

namespace Sys2Proof.Machine

/-- A channel after one conversion (R16, R18): `lo` to `hi` is its valid band, `scale` its scaled value, and
`flagged` says that it keeps a first-judged flag. -/
def AnalogChannel.sample (c : AnalogChannel) (count : Count) (lo hi : Nat) (scale : Nat → Int)
    (flagged : Bool) : AnalogChannel :=
  let grown := c.samples ++ [count]
  let list := grown.drop (grown.length - 4)
  let avg := (list.map BitVec.toNat).sum / list.length
  let inBand := decide (lo ≤ avg) && decide (avg ≤ hi)
  let run := if inBand = c.valid then 0 else c.run + 1
  let valid := if 10 ≤ run then inBand else c.valid
  let taken := min 10 (c.taken + 1)
  { samples := list
    average := avg
    value := if valid then scale avg else c.value
    valid := valid
    run := if 10 ≤ run then 0 else run
    taken := taken
    firstJudged := c.firstJudged || (flagged && taken == 10) }

/-- A pressure or head in its own units from a count above the zero Z (R17). -/
def spanned (z full : Int) (c : Nat) : Int := (((c : Int) - z) * full).tdiv 3276

/-- DIS, HWT and HFM (R17). -/
def scaleFull (z : Int) (c : Nat) : Int := clampInt 0 2500 (spanned z 2500 c)

/-- INT (R17). -/
def scaleIntake (z : Int) (c : Nat) : Int := clampInt (-100) 1600 (-100 + spanned z 1700 c)

/-- CAS (R17). -/
def scaleCasing (c : Nat) : Int := -40 + ((c : Int) * 200).tdiv 4095

/-- SUP (R17). -/
def scaleSupply (c : Nat) : Int := ((c : Int) * 360).tdiv 4095

/-- DIS is published: the governor, the tank monitor and the interlock unit act on it (R18, R88, R123). -/
def disPublished (s : State) : State := judge 11 (primerOnDis (governorOnDis s))

/-- External supply as it stands after a publication of INT (R113). -/
def externalNow (s : State) : Bool :=
  let v := s.analog.int.value
  s.analog.int.valid &&
    (if s.tank.external then decide (s.cfg 200 - 20 ≤ v) else decide (s.cfg 200 ≤ v))

/-- A change of external supply is published: entry 8, the fill judgment and the reconciliation window
(R113, R115, R119, R125), in the model's order: log entry 5. -/
def externalPublished (s : State) : State := reconJudge false (fillJudge (judge 8 s))

/-- INT is published (R113). -/
def intPublished (s : State) : State :=
  let e := externalNow s
  let s1 :=
    if e = s.tank.external then s
    else externalPublished (s.modTank fun m => { m with external := e })
  judge 11 s1

/-- CAS is published (R89 to R91). -/
def casPublished (s : State) : State := judge 11 (judge 9 (casingJudge s))

/-- The tank monitor takes supply-low as present (R98): every candidate is removed and every run is 0. -/
def dropRuns (s : State) : State :=
  s.modTank fun m => { m with probes := m.probes.map fun p => { p with candidate := none, run := 0 } }

/-- Supply-low as it stands after a publication of SUP (R19). -/
def supplyLowNow (s : State) : Bool :=
  if s.analog.supplyLow then decide (s.analog.sup.value < s.cfg 18 + 5)
  else decide (s.analog.sup.value < s.cfg 18)

/-- SUP is published, and supply-low is judged (R19); a change is published to the interlock unit, the tank
monitor and the output unit. -/
def supPublished (s : State) : State :=
  let low := supplyLowNow s
  if low = s.analog.supplyLow then s
  else
    let s1 := judge 10 (s.modAnalog fun a => { a with supplyLow := low })
    if low then suspendDiagnostics (dropRuns s1) else resumeDiagnostics s1

/-- A head channel is published: entry 11 is judged, and a channel that is INVALID has its tank's filter
seeded when the raw volume is next formed (R103). -/
def headPublished (t : TankId) (valid : Bool) (s : State) : State :=
  judge 11 (s.modTankOf t fun k => { k with reseed := k.reseed || !valid })

/-- The six channels are converted, judged and published in the order of section 1.6 (R16). -/
def sampleAll (c : Counts) (s : State) : State :=
  let s1 := disPublished (s.modAnalog fun a => { a with
    sampleTimer := some (ms 10), dis := a.dis.sample c.dis 205 3890 (scaleFull (s.cfg 14)) true })
  let s2 := intPublished (s1.modAnalog fun a => { a with
    int := a.int.sample c.int 205 3890 (scaleIntake (s.cfg 15)) true })
  let hwt := s2.analog.hwt.sample c.hwt 205 3890 (scaleFull (s.cfg 16)) true
  let s3 := headPublished .water hwt.valid (s2.modAnalog fun a => { a with hwt := hwt })
  let hfm := s3.analog.hfm.sample c.hfm 205 3890 (scaleFull (s.cfg 17)) true
  let s4 := headPublished .foam hfm.valid (s3.modAnalog fun a => { a with hfm := hfm })
  let s5 := casPublished (s4.modAnalog fun a => { a with
    cas := a.cas.sample c.cas 41 4054 scaleCasing true })
  supPublished (s5.modAnalog fun a => { a with sup := a.sup.sample c.sup 0 4095 scaleSupply false })

/-- SAMPLE_TIMER_EXPIRY (R16 to R19), with the conversion results as operand. -/
def execSampleTimerExpiry (c : Counts) (s : State) : Host.Outcome State Fault Refusal :=
  if s.analog.sampleTimer.isNone then .next s else .next (settle (sampleAll c s))

end Sys2Proof.Machine
end

