-- ==== Sys2Proof/Machine/Switches.lean ====
section
/-! DEFINITION. The discrete input unit's commands (section 1.9): RAW_LEVEL_CHANGE and DEBOUNCE_EXPIRY. -/

namespace Sys2Proof.Machine

/-- A raw level read under a line's polarity (R21, R22, R23). -/
def interpret (s : State) (n : Fin 12) (c : Contact) : Bool :=
  if n = 3 then c == .opened
  else if s.cfg (20 + n.val) = 0 then c == .closed
  else c == .opened

/-- A line's debounce time (R21, R23). -/
def debounceTime (s : State) (n : Fin 12) : Micros := ms (if n = 3 then 5 else s.cfgN (40 + n.val))

/-- A settled line's debounce timer after its interpretation may have changed (R22). -/
def rejudgeLine (n : Fin 12) (s : State) : State :=
  let l := s.disc[n]
  s.modSwitch n fun l' => { l' with
    debounce := if interpret s n l.raw = l.active then none else some (debounceTime s n) }

/-- RAW_LEVEL_CHANGE: the line's timer starts, restarts or stops (R22, R24). Out of service the level is the
contact's alone. -/
def execRawLevelChange (n : Fin 12) (c : Contact) (s : State) : Host.Outcome State Fault Refusal :=
  if s.disc[n].raw = c then .next s
  else
    let s1 := s.modSwitch n fun l => { l with raw := c }
    if !s.inService then .next s1
    else if s.disc[n].settled then .next (rejudgeLine n s1)
    else .next (s1.modSwitch n fun l => { l with debounce := some (debounceTime s n) })

/-- The readers of a debounced state act on its publication (R22, R35, R58, R60, R64, R67). -/
def switchPublished (n : Fin 12) (s : State) : State :=
  if n = 0 then ptoOnQualifier (judge 7 (modeJudge s))
  else if n = 1 then ptoOnQualifier s
  else if n = 2 then ptoOnConfirm (judge 2 s)
  else if n = 3 then judge 0 s
  else judgeLine n s

/-- DEBOUNCE_EXPIRY: the debounced state takes the interpretation of the present raw level, the line settles,
and the state is published (R22, R24). -/
def execDebounceExpiry (n : Fin 12) (s : State) : Host.Outcome State Fault Refusal :=
  if s.disc[n].debounce.isNone then .next s
  else .next (settle (switchPublished n (s.modSwitch n fun l =>
    { l with active := interpret s n l.raw, debounce := none, settled := true })))

end Sys2Proof.Machine
end

