-- ==== Sys2Proof/Machine/Levels.lean ====
section
/-! DEFINITION. The tank monitor's level work (chapter 5) and what the level expiry does for filling and
accounting (chapter 6): LEVEL_TIMER_EXPIRY and PROGRESS_WINDOW_EXPIRY. -/

namespace Sys2Proof.Machine

/-! ## Probes (section 5.2) -/

/-- Readings required by a settle index (R94). -/
def settleReadings : List Nat := [1, 2, 3, 5, 8, 10, 15, 20, 30, 40, 50, 60, 80, 100, 120, 150]

/-- The readings that the settle time in force requires (R96). -/
def requiredReadings (s : State) : Nat :=
  settleReadings.getD (s.cfgN (if s.road.standstill then 124 else 125)) 150

/-- The threshold a probe chooses (R94, R95). -/
def probeThreshold (s : State) (i : Fin 6) : Nat := s.cfgN (if s.cfg (112 + i.val) = 0 then 110 else 111)

/-- The target state of a reading (R95). -/
def probeTarget (threshold : Nat) (reading : Byte) : ProbeState :=
  if reading = 255 then .fault else if threshold ≤ reading.toNat then .wet else .dry

/-- A probe after one reading (R96, R97): `required` is the run its settle time requires. -/
def Probe.take (p : Probe) (reading : Byte) (threshold required : Nat) : Probe :=
  let target := probeTarget threshold reading
  if p.judged && target == p.state then { p with reading := reading, candidate := none, run := 0 }
  else
    let runs := p.candidate == some target || (p.state == .fault && p.candidate.isSome)
    let run := if runs then p.run + 1 else 1
    if required ≤ run then
      { p with reading := reading, state := target, judged := true, candidate := none, run := 0 }
    else { p with reading := reading, candidate := some target, run := run }

/-- Every probe takes its reading; under supply-low none does (R95, R98). -/
def takeReadings (r : Vector Byte 6) (s : State) : State :=
  if s.analog.supplyLow then s
  else allProbes.foldl (fun s i => s.modProbe i fun p =>
    p.take r[i] (probeThreshold s i) (requiredReadings s)) s

/-- The probes of a tank, in probe order (table of section 5.2). -/
def tankProbes : TankId → List (Fin 6)
  | .water => [0, 1, 2, 3]
  | .foam => [4, 5]

/-- The full probe of a tank: W4 or F2. -/
def fullProbe : TankId → Fin 6
  | .water => 3
  | .foam => 5

/-- Whether a probe is usable: judged and not in FAULT (R104). -/
def Probe.usable (p : Probe) : Bool := p.judged && p.state != .fault

/-- Whether a tank's full probe is usable and WET (R109). -/
def fullWet (s : State) (t : TankId) : Bool :=
  let p := s.tank.probes[fullProbe t]
  p.usable && p.state == .wet

/-! ## Strapping tables (section 5.3) -/

/-- The item of a tank's point count. -/
def strapBase : TankId → Nat
  | .water => 140
  | .foam => 170

/-- Slot `i` of a tank's table: height and volume. -/
def strapSlot (s : State) (t : TankId) (i : Nat) : Int × Int :=
  (s.cfg (strapBase t + 1 + 2 * i), s.cfg (strapBase t + 2 + 2 * i))

/-- The points of a tank's table: its first count slots (R101). -/
def strapPoints (s : State) (t : TankId) : List (Int × Int) :=
  (List.range (s.cfgN (strapBase t))).map (strapSlot s t)

/-- Whether heights strictly increase and volumes do not decrease (R101). -/
def pointsValid : List (Int × Int) → Bool
  | [] => true
  | [_] => true
  | p :: q :: rest => decide (p.1 < q.1) && decide (p.2 ≤ q.2) && pointsValid (q :: rest)

/-- The volume at a liquid height, through a table (R102). -/
def volumeAt : List (Int × Int) → Int → Int
  | [], _ => 0
  | [p], _ => p.2
  | p :: q :: rest, h =>
    if h ≤ p.1 then p.2
    else if h < q.1 then p.2 + ((h - p.1) * (q.2 - p.2)).tdiv (q.1 - p.1)
    else volumeAt (q :: rest) h

/-- The volume of slot 0 (R106). -/
def firstVolume (s : State) (t : TankId) : Int := (strapSlot s t 0).2

/-- The volume of the last slot within the count (R106). -/
def lastVolume (s : State) (t : TankId) : Int := (strapSlot s t (s.cfgN (strapBase t) - 1)).2

/-- A tank's head channel. -/
def headOf (s : State) : TankId → AnalogChannel
  | .water => s.analog.hwt
  | .foam => s.analog.hfm

/-- A tank's liquid height (R100): density 1000 for WATER, item 126 for FOAM. -/
def liquidHeight (s : State) (t : TankId) : Int :=
  ((headOf s t).value * 1000).tdiv (match t with | .water => 1000 | .foam => s.cfg 126)

/-- The raw volume of a tank (R102). -/
def rawVolume (s : State) (t : TankId) : Int := volumeAt (strapPoints s t) (liquidHeight s t)

/-- The volume at a probe's height (R102). -/
def probeVolume (s : State) (t : TankId) (i : Fin 6) : Int :=
  volumeAt (strapPoints s t) (s.cfg (118 + i.val))

/-! ## Filter, band and status (sections 5.4 and 5.5) -/

/-- One step of the filter (R103). -/
def filterStep (vf vraw : Int) (k : Nat) : Int :=
  let diff := vraw - vf
  let step := diff.tdiv (2 ^ k)
  vf + (if step = 0 then (if 0 < diff then 1 else if diff < 0 then -1 else 0) else step)

/-- The filter constant in force (R103). -/
def filterConstant (s : State) : Nat := s.cfgN (if s.road.standstill then 127 else 128)

/-- The usable probes of a tank that stand in a state. -/
def probesIn (s : State) (t : TankId) (st : ProbeState) : List (Fin 6) :=
  (tankProbes t).filter fun i => s.tank.probes[i].usable && s.tank.probes[i].state == st

/-- Vlow (R104). -/
def bandLow (s : State) (t : TankId) : Int :=
  match (probesIn s t .wet).getLast? with
  | some i => probeVolume s t i
  | none => firstVolume s t

/-- Vhigh (R104). -/
def bandHigh (s : State) (t : TankId) : Int :=
  match (probesIn s t .dry).head? with
  | some i => probeVolume s t i
  | none => lastVolume s t

/-- Whether a usable WET probe stands above a usable DRY one (R104). -/
def orderFaultOf (s : State) (t : TankId) : Bool :=
  (probesIn s t .dry).any fun d => (probesIn s t .wet).any fun w => decide (d < w)

/-- Whether a tank has a usable probe. -/
def anyUsable (s : State) (t : TankId) : Bool := (tankProbes t).any fun i => s.tank.probes[i].usable

/-- The class judged directly from a reported volume (R108, R109); items from `130` or `133`. -/
def directClass (s : State) (t : TankId) (vrep : Int) : TankClass :=
  let b := match t with | .water => 130 | .foam => 133
  if vrep < s.cfg (b + 1) then .reserve else if vrep < s.cfg b then .low else .normal

/-- The class as the hysteresis moves it from the class held (R108). -/
def movedClass (s : State) (t : TankId) (held : TankClass) (vrep : Int) : TankClass :=
  let b := match t with | .water => 130 | .foam => 133
  let low := s.cfg b
  let reserve := s.cfg (b + 1)
  let hyst := s.cfg (b + 2)
  match held with
  | .reserve =>
    if low + hyst ≤ vrep then .normal else if reserve + hyst ≤ vrep then .low else .reserve
  | .low => if vrep < reserve then .reserve else if low + hyst ≤ vrep then .normal else .low
  | .normal => if vrep < reserve then .reserve else if vrep < low then .low else .normal
  | .full => .full

/-- The status, reason and reported volume of R105, from the filtered volume `vf` of this expiry. -/
def statusOf (s : State) (t : TankId) (vf : Option Int) : TankStatus × Option UnknownReason × Int :=
  let k := s.tankOf t
  if !k.tableValid then (.unknown, some .table, k.vrep)
  else
    match vf with
    | none =>
      if orderFaultOf s t || !anyUsable s t then (.unknown, some .sensors, k.vrep)
      else (.probesOnly, none, (bandLow s t + bandHigh s t).tdiv 2)
    | some v =>
      if orderFaultOf s t then (.normal, none, v)
      else if bandLow s t ≤ v ∧ v ≤ bandHigh s t then (.normal, none, v)
      else (.clamped, none, clampInt (bandLow s t) (bandHigh s t) v)

/-- The filtered volume of this expiry (R103): absent while the raw volume is not formed, seeded when it was
absent or after a table write, else stepped. -/
def filtered (s : State) (t : TankId) : Option Int :=
  let k := s.tankOf t
  if k.tableValid && (headOf s t).valid then
    match k.vf with
    | some v => some (if k.reseed then rawVolume s t else filterStep v (rawVolume s t) (filterConstant s))
    | none => some (rawVolume s t)
  else none

/-- The class of this expiry (R108, R109), from its status and reported volume, and whether the class has
been judged. -/
def classOf (s : State) (t : TankId) (status : TankStatus) (vrep : Int) : TankClass × Bool :=
  let k := s.tankOf t
  if fullWet s t then (.full, true)
  else if !k.clsJudged then
    if status = .unknown then (k.cls, false) else (directClass s t vrep, true)
  else if k.cls = .full then (directClass s t vrep, true)
  else if status = .unknown then (k.cls, true)
  else (movedClass s t k.cls vrep, true)

/-- A tank after the level work of one expiry (R93, steps 2 to 6). -/
def levelled (s : State) (t : TankId) : Tank :=
  let k := s.tankOf t
  let vf := filtered s t
  let st := statusOf s t vf
  let c := classOf s t st.1 st.2.2
  { k with
    vf := vf
    reseed := k.reseed && vf.isNone
    orderFault := k.tableValid && orderFaultOf s t
    status := st.1
    reason := st.2.1
    vrep := st.2.2
    cls := c.1
    clsJudged := c.2 }

/-- The probe volumes of one expiry (R94, R102): absent while the tank's table is invalid. -/
def probeVolumes (t : TankId) (s : State) : State :=
  (tankProbes t).foldl (fun s i => s.modProbe i fun p => { p with
    volume := if (s.tankOf t).tableValid then some (probeVolume s t i) else none }) s

/-- The level work of one expiry (R93, steps 1 to 6). -/
def levelWork (r : Vector Byte 6) (s : State) : State :=
  let s1 := probeVolumes .foam (probeVolumes .water (takeReadings r s))
  let w := levelled s1 .water
  let f := levelled s1 .foam
  s1.modTank fun m => { m with water := w, foam := f, levelVrep := w.vrep, levelTimer := some (ms 100) }

/-- A TANK report is raised where the status, its reason or the class has changed since `old` (R110). -/
def tankReport (t : TankId) (old : Tank) (s : State) : State :=
  let k := s.tankOf t
  if k.status = old.status ∧ k.reason = old.reason ∧ k.cls = old.cls then s else raise (.tank t) s

/-- The session total (R124), of which the account keeps the value of the latest expiry. -/
def sessionTotalOf (s : State) : Nat := s.pulse.flowCount.toNat * 100 / s.cfgN 12

/-! ## Filling and accounting at the expiry (sections 6.5 and 6.7) -/

/-- The progress window is compared with the new Vrep (R120). -/
def progressJudge (s : State) : State :=
  match s.tank.fillWindow with
  | some w => if w.start + s.cfg 203 ≤ s.tank.water.vrep then freshWindow s.tank.water.vrep s else s
  | none => s

/-- Whether a window of tank fall `fall` and counted growth `delta` fails the check (R126). -/
def checkFails (fall : Int) (delta tolerance : Nat) : Bool :=
  decide (tolerance * delta < (fall - delta).natAbs * 100)

/-- A FLOW_CHECK report with its mismatch and flowΔ (R126, R165). -/
def flowCheckReport (mismatch delta : Nat) (s : State) : State :=
  post .flowCheck ⟨hiByte (fitHalf delta), fitHalf mismatch, loByte (fitHalf delta)⟩ s

/-- The open reconciliation window at a level expiry (R125, R126). -/
def reconExpiry (s : State) : State :=
  match s.tank.recon with
  | none => s
  | some w =>
    let total := s.tank.sessionTotal
    let fresh := fun s : State => s.modTank fun m => { m with
      recon := if reconConditions s then some ⟨m.water.vrep, m.sessionTotal⟩ else none }
    if total < w.startTotal then fresh s
    else
      let delta := total - w.startTotal
      if delta < s.cfgN 207 then s
      else
        let fall := w.startVrep - s.tank.water.vrep
        let s1 :=
          if checkFails fall delta (s.cfgN 208) then flowCheckReport (fall - delta).natAbs delta s else s
        fresh s1

/-- What follows the level work at one expiry (R93, step 7): reports, the output unit's reading of the water
class, entries 8 and 11, the foam enable (R117), filling and accounting. `old` is the state before. -/
def levelPublish (old s : State) : State :=
  let s1 := tankReport .foam old.tank.foam (tankReport .water old.tank.water s)
  let s2 := s1.modTank fun m => { m with sessionTotal := sessionTotalOf s1 }
  let s3 := judge 11 (judge 8 (waterClassPublished s2))
  let s4 :=
    if s3.tank.foam.cls = .reserve ∧ old.tank.foam.cls ≠ .reserve then command foamEn false s3 else s3
  reconExpiry (reconJudge false (progressJudge (fillJudge s4)))

/-- LEVEL_TIMER_EXPIRY (R93 to R110, R117, R119, R120, R124 to R126), with the six probe readings as
operand. -/
def execLevelTimerExpiry (r : Vector Byte 6) (s : State) : Host.Outcome State Fault Refusal :=
  if s.tank.levelTimer.isNone then .next s else .next (settle (levelPublish s (levelWork r s)))

/-- A fill fails (R120): the valve is commanded closed, the mode becomes OFF, the window is discarded and the
fill-fault condition becomes present. The FILL report is raised before entry 15 is judged: log entry 5. -/
def fillFails (s : State) : State :=
  let s1 := s.modTank fun m => { m with fillMode := .off, fillFault := true }
  let s2 := (setFill false s1).modTank fun m => { m with fillWindow := none }
  judge 15 (raise .fill s2)

/-- PROGRESS_WINDOW_EXPIRY (R120, R121). -/
def execProgressWindowExpiry (s : State) : Host.Outcome State Fault Refusal :=
  if s.tank.fillWindow.isNone then .next s else .next (settle (fillFails s))

end Sys2Proof.Machine
end

