-- ==== Sys2Proof/Machine/Startup.lean ====
section
/-! DEFINITION. Full reset, its two holds, the load of the image and the start of service (R20, R171, R172),
and the throttle-demand line's periods (R87): BROWN_OUT, SUPPLY_RISE_ABOVE_6V, SUPPLY_HOLD_EXPIRY,
RESET_PIN_ASSERT, RESET_PIN_RELEASE, LOAD_COMPLETE and PWM_PERIOD_END. -/

namespace Sys2Proof.Machine

/-! ## Full reset -/

/-- The image that an interrupted store leaves: its CRC does not agree with its values (R170). Log
entry 4. -/
def corruptImage (i : NvImage) : NvImage := ⟨i.vals, ~~~ imageCrc i.vals⟩

/-- Full reset (R20, R172): every block takes its full-reset state. What stands outside the part stays: the
levels on its input pins, the supply and the reset pin, and the nonvolatile image, which a store in flight
leaves corrupt. -/
def fullReset (s : State) : State :=
  { State.reset with
    ctl := { s.ctl with startup := .held }
    road := { State.reset.road with phaseA := s.road.phaseA, phaseB := s.road.phaseB }
    disc := Vector.zipWith (fun r l => { r with raw := l.raw }) State.reset.disc s.disc
    out := { State.reset.out with
      lines := Vector.zipWith (fun r l => { r with readback := l.readback }) State.reset.out.lines s.out.lines }
    store := { State.reset.store with
      image := if s.store.snapshot.isSome then corruptImage s.store.image else s.store.image }
    pending := s.pending }

/-- Start-up begins once both holds have ended (R172). -/
def beginStartup (s : State) : State :=
  if s.ctl.startup = .held ∧ s.ctl.supplyOk = true ∧ s.ctl.supplyHold = none ∧ s.ctl.pinLow = false then
    s.modCtl fun c => { c with startup := .loading }
  else s

/-- BROWN_OUT: the supply falls below 6.0 V, and the part is held in full reset (R20). -/
def execBrownOut (s : State) : Host.Outcome State Fault Refusal :=
  .next ((fullReset s).modCtl fun c => { c with supplyOk := false, supplyHold := none })

/-- SUPPLY_RISE_ABOVE_6V: the 10 ms hold begins (R20). -/
def execSupplyRiseAbove6V (s : State) : Host.Outcome State Fault Refusal :=
  if s.ctl.supplyOk then .next s
  else .next (s.modCtl fun c => { c with supplyOk := true, supplyHold := some (ms 10) })

/-- SUPPLY_HOLD_EXPIRY: the supply's hold ends (R20, R172). -/
def execSupplyHoldExpiry (s : State) : Host.Outcome State Fault Refusal :=
  if s.ctl.supplyHold.isNone then .next s
  else .next (beginStartup (s.modCtl fun c => { c with supplyHold := none }))

/-- RESET_PIN_ASSERT: the part is held in full reset (R172). -/
def execResetPinAssert (s : State) : Host.Outcome State Fault Refusal :=
  .next ((fullReset s).modCtl fun c => { c with pinLow := true })

/-- RESET_PIN_RELEASE: the pin's hold ends (R172). -/
def execResetPinRelease (s : State) : Host.Outcome State Fault Refusal :=
  if !s.ctl.pinLow then .next s
  else .next (beginStartup (s.modCtl fun c => { c with pinLow := false }))

/-! ## The load (R171) -/

/-- The table of the defaults. -/
def defaultTable : List (Nat × Half) := itemNumbers.map fun i => (i, itemDefault i)

/-- The table that an image's values fill. -/
def imageTable (img : NvImage) : List (Nat × Half) := itemNumbers.zip img.vals

/-- Whether every value of a table lies in its item's range or codes. -/
def tableInRange (t : List (Nat × Half)) : Bool :=
  t.all fun e => match itemSpec e.1 with
    | some r => r.domain.contains (itemValue e.1 e.2)
    | none => false

/-- Whether a table keeps every relation of R167. -/
def tableRelated (t : List (Nat × Half)) : Bool :=
  relationHeads.all (relationKept fun i => itemValue i (tableValue t i))

/-- Whether an image loads (R171). -/
def imageGood (img : NvImage) : Bool :=
  img.vals.length == itemNumbers.length && imageCrc img.vals == img.crc
    && tableInRange (imageTable img) && tableRelated (imageTable img)

/-- The live table is filled and the owners take their values (R171): the governor its working copy, the
ports their rate and address, the lines their stop-states. -/
def loadSettings (s : State) : State :=
  let good := imageGood s.store.image
  let s1 := s.modStore fun m => { m with
    live := if good then imageTable m.image else defaultTable, defaultsInUse := !good }
  let s2 := s1.modGov fun g => { g with work := s1.shadow }
  let s3 := s2.modLinks fun l =>
    { a := { l.a with rateIndex := s1.cfgN 340, node := byte (s1.cfgN 341) }
      b := { l.b with rateIndex := s1.cfgN 342, node := byte (s1.cfgN 343) } }
  allLines.foldl (fun s n => s.modLine n fun l =>
    { l with stopState := stopStateOf (s.cfg (210 + n.val)) }) s3

/-! ## The start of service (R172, step 2) -/

/-- A tank's table is judged, and its Vrep is set (R101, R106). -/
def startTank (t : TankId) (s : State) : State :=
  let valid := pointsValid (strapPoints s t)
  s.modTankOf t fun k => { k with
    tableValid := valid
    vrep := if valid then firstVolume s t else min (firstVolume s t) (lastVolume s t) }

/-- The tank monitor begins service: both tanks, and the level timer (R93). Until the first level expiry the Vrep so
set stands for that of the latest one (log entry 38). -/
def startTanks (s : State) : State :=
  (startTank .foam (startTank .water s)).modTank fun m => { m with
    levelVrep := m.water.vrep, levelTimer := some (ms 100) }

/-- The keys of the six resynchronisation reports, in order (R158). -/
def resyncKeys : List ReportKey := [.mode, .pto, .governor, .authority, .tank .water, .tank .foam]

/-- A port queues the six resynchronisation reports with their owners' current contents (R158). -/
def resync (p : Port) (s : State) : State :=
  resyncKeys.foldl (fun s k => s.modPort p (postPort k (recordOf s k))) s

/-- A port begins listening (R149). -/
def startPort (p : Port) (s : State) : State :=
  resync p (s.modPort p fun r => { r with listening := true })

/-- The measuring units begin service: their timers and every line's debounce start. -/
def startInputs (s : State) : State :=
  let s1 := (s.modRoad fun r => { r with gateTimer := some (ms 250) }).modAnalog fun a =>
    { a with sampleTimer := some (ms 10) }
  allSwitches.foldl (fun s n => s.modSwitch n fun l => { l with debounce := some (debounceTime s n) }) s1

/-- The blocks begin service in the order of R172. -/
def beginService (s : State) : State :=
  let s1 := judgeAll (interlockLines (s.modCtl fun c => { c with startup := .running }))
  let s2 := allLines.foldl (fun s n => startBlank n s) (judge 11 (startTanks s1))
  startPort .b (startPort .a (startInputs s2))

/-- LOAD_COMPLETE: the live table is filled, and the blocks begin service (R171, R172). -/
def execLoadComplete (s : State) : Host.Outcome State Fault Refusal :=
  if s.ctl.startup = .loading then .next (settle (beginService (loadSettings s))) else .next s

/-! ## The throttle-demand line (R87) -/

/-- The period of a frequency index, in µs. -/
def pwmPeriods : List Nat := [10000, 6666, 5000, 4000, 3333, 2500, 2000, 1000]

/-- The period that a frequency index selects. -/
def pwmPeriod (index : Nat) : Micros := pwmPeriods.getD index 4000

/-- How long the line is high in each period. -/
def Throttle.highTime (t : Throttle) : Int := (t.duty * (pwmPeriod t.index : Int)).tdiv 1000

/-- PWM_PERIOD_END: the next period starts with the newest duty and frequency index. -/
def execPwmPeriodEnd (s : State) : Host.Outcome State Fault Refusal :=
  .next (s.modPwm fun _ => ⟨s.cfgN 101, s.gov.duty, some (pwmPeriod (s.cfgN 101))⟩)

end Sys2Proof.Machine
end

