-- ==== Sys2Proof/Machine/Frames.lean ====
section
/-! DEFINITION. What every request shares (chapters 9 and 10): the answer of an owning block, the reply that
a port builds from it, the cancelling of an unsent reply, and the handling of one good frame; and the
commands that send a reply. -/

namespace Sys2Proof.Machine

/-- The result codes (table 10.4). -/
inductive Result where
  | ok | clamped | pending | unknownKind | badLength | badValue | noAuthority | notPermitted | busy | lockedOut
deriving DecidableEq, Repr

/-- The code of a result. -/
def Result.code : Result → Nat
  | .ok => 0 | .clamped => 1 | .pending => 2 | .unknownKind => 16 | .badLength => 17 | .badValue => 18
  | .noAuthority => 19 | .notPermitted => 20 | .busy => 21 | .lockedOut => 22

/-- What an owning block answers: a result, the reply's data, and the queue entries it carries. -/
structure Answer where
  result  : Result
  data    : List Byte
  carries : List ReportKey
deriving DecidableEq, Repr

/-- An answer without data. -/
def Answer.bare (r : Result) : Answer := ⟨r, [], []⟩

/-- An answer OK with data. -/
def Answer.withData (d : List Byte) : Answer := ⟨.ok, d, []⟩

/-- How an owning block judges a request: the requesting station and the arriving port, and the state before
and after. -/
abbrev Body := Station → Port → State → State × Answer

/-- The answer of a request that changes nothing. -/
def unchanged (s : State) (r : Result) : State × Answer := (s, .bare r)

/-- Char 2 of a frame: origin and tag (table 10.2). -/
def originTag (o : Origin) (tag : BitVec 7) : Byte :=
  byte ((match o with | .operator => 0 | .service => 128) + tag.toNat)

/-- The reply that a port builds from an answer (R162). -/
def buildReply (h : Header) (kind : Nat) (a : Answer) : Reply :=
  ⟨originTag h.origin h.tag, byte kind, byte a.result.code, a.data, a.carries⟩

/-- A character on a bus (R150): its eight data bits and its mark bit. -/
structure BusChar where
  data : Byte
  mark : Bool
deriving DecidableEq, Repr

/-- The characters of a reply that its check covers (table 10.2, R160): the length, then what the reply carries. -/
def Reply.covered (r : Reply) : List Byte :=
  byte (3 + r.data.length) :: r.originTag :: r.kind :: r.result :: r.data

/-- The characters of a reply as they are sent (table 10.2, R153, R159, R160): address 0 first and marked, and the
rest unmarked, the check at their end, high byte first. -/
def Reply.chars (r : Reply) : List BusChar :=
  ⟨0, true⟩ :: (r.covered ++ halfBytes (crc16 r.covered)).map (⟨·, false⟩)

/-- What a port sends while it transmits (R153): the characters of the reply in its slot, back to back. -/
def PortRecord.sends (p : PortRecord) : List BusChar :=
  if p.transmitting then (p.reply.map Reply.chars).getD [] else []

/-- The unsent reply is discarded (R154): the carried flags are cleared, and every entry stays (R157). -/
def PortRecord.cancelReply (p : PortRecord) : PortRecord :=
  if p.reply.isSome then
    { p with reply := none, queue := p.queue.map fun e => { e with carried := false } }
  else p

/-- A port whose assembler is WAITING. -/
def PortRecord.waiting (p : PortRecord) : PortRecord := { p with frame := none, gap := none }

/-- Whether a port takes what arrives on its bus (R149, R153). -/
def PortRecord.hears (p : PortRecord) : Bool := p.listening && !p.transmitting

/-- A good frame is complete (R152, R161): the arbiter assigns its station; a broadcast read is ignored;
otherwise the owning block judges the request, its effects come about, and a frame addressed to the node has
its reply built. -/
def handFrame (h : Header) (kind : Nat) (isRead : Bool) (body : Body) (s : State) : State :=
  let st := stationOf h.port h.origin
  let s1 := arbiterFrame st s
  if h.bcast && isRead then settle s1
  else
    let r := body st h.port s1
    let s2 := settle r.1
    if h.bcast then s2
    else s2.modPort h.port fun p => { p with reply := some (buildReply h kind r.2) }

/-- One whole frame with a good check arrives at a port: its marked character cancels an unsent reply (R154)
and ends any partial frame (R151), and its last character completes it. A port that is not listening, or is
transmitting, does not receive it (R149, R153). Log entry 7. -/
def serve (h : Header) (kind : Nat) (isRead : Bool) (body : Body) (s : State) : State :=
  if (s.port h.port).hears then
    handFrame h kind isRead body (s.modPort h.port fun p => p.cancelReply.waiting)
  else s

/-- REPLY_TRANSMIT_START: a waiting reply begins (R153). -/
def execReplyTransmitStart (p : Port) (s : State) : Host.Outcome State Fault Refusal :=
  if (s.port p).reply.isSome && (s.port p).hears then
    .next (s.modPort p fun r => { r with transmitting := true, txEnable := true })
  else .next s

/-- A port whose reply has completed (R153, R157). -/
def PortRecord.replyDone (p : PortRecord) : PortRecord :=
  let keys := match p.reply with | some r => r.carries | none => []
  let q := p.queue.filter fun e => !(e.carried && keys.contains e.key)
  { p.waiting.withQueue q with reply := none, transmitting := false, txEnable := false }

/-- REPLY_COMPLETE: the last character of the reply ends (R153, R157). -/
def execReplyComplete (p : Port) (s : State) : Host.Outcome State Fault Refusal :=
  if (s.port p).transmitting then .next (s.modPort p PortRecord.replyDone) else .next s

end Sys2Proof.Machine
end

