-- ==== Sys2Proof/Machine/LockoutCommands.lean ====
section
/-! DEFINITION. The interlock unit's commands (chapter 2): ENTRY_DELAY_EXPIRY, CADENCE_TIMER_EXPIRY,
ENTER_ROLL, LEAVE_ROLL, ACKNOWLEDGE_LOCKOUT, ACKNOWLEDGE_LOCKOUT_ALL, SILENCE_ALARM, READ_LOCKOUTS and
READ_ENTRY. -/

namespace Sys2Proof.Machine

/-- ENTRY_DELAY_EXPIRY: a PENDING entry becomes ACTIVE and joins the list (R39). -/
def execEntryDelayExpiry (n : Fin 32) (s : State) : Host.Outcome State Fault Refusal :=
  if s.ilk.entries[n].state = .pending then .next (settle (join n s)) else .next s

/-- CADENCE_TIMER_EXPIRY: the ALARM command is inverted and the timer starts again (R51). -/
def execCadenceTimerExpiry (s : State) : Host.Outcome State Fault Refusal :=
  if s.ilk.cadence.isNone then .next s
  else .next (command alarmLine (!s.out.lines[alarmLine].commanded)
    (s.modIlk fun k => { k with cadence := some (ms 500) }))

/-- Enter Roll, judged in the order of R30. -/
def bodyEnterRoll : Body := fun st _ s =>
  if s.auth.holder ≠ some st then unchanged s .noAuthority
  else if st ≠ .cab then unchanged s .notPermitted
  else if s.ilk.mode = .roll then unchanged s .ok
  else if s.ilk.mode ≠ .pump then unchanged s .notPermitted
  else if s.pto.state ≠ .engaged then unchanged s .notPermitted
  else if s.cfg 60 = 0 then unchanged s .notPermitted
  else (setMode .roll s, .bare .ok)

/-- ENTER_ROLL (R30). -/
def execEnterRoll (h : Header) (s : State) : Host.Outcome State Fault Refusal :=
  .next (serve h 48 false bodyEnterRoll s)

/-- Leave Roll, judged in the order of R31. -/
def bodyLeaveRoll : Body := fun st _ s =>
  if st = .service then unchanged s .notPermitted
  else if s.ilk.mode ≠ .roll then unchanged s .ok
  else if !s.road.standstill then unchanged s .notPermitted
  else (setMode .pump s, .bare .ok)

/-- LEAVE_ROLL (R31). -/
def execLeaveRoll (h : Header) (s : State) : Host.Outcome State Fault Refusal :=
  .next (serve h 49 false bodyLeaveRoll s)

/-- The HELD entries of the active list, oldest first. -/
def heldEntries (s : State) : List (Fin 32) := s.ilk.active.filter fun n => s.ilk.entries[n].state == .held

/-- Acknowledge Lockout with ALL (R47). -/
def bodyAcknowledgeAll : Body := fun _ _ s =>
  let held := heldEntries s
  (held.foldl (fun s n => leave n s) s, .withData [byte held.length])

/-- Acknowledge Lockout (R46); the number 255 stands for ALL (table 10.3). -/
def bodyAcknowledge (n : Byte) : Body := fun st p s =>
  if n = 255 then bodyAcknowledgeAll st p s
  else if h : n.toNat < 32 then
    let e : Fin 32 := ⟨n.toNat, h⟩
    match s.ilk.entries[e].state with
    | .held => (leave e s, .bare .ok)
    | .active => unchanged s .notPermitted
    | .clear => unchanged s .ok
    | .pending => unchanged s .ok
  else unchanged s .badValue

/-- ACKNOWLEDGE_LOCKOUT (R46). -/
def execAcknowledgeLockout (h : Header) (n : Byte) (s : State) : Host.Outcome State Fault Refusal :=
  .next (serve h 64 false (bodyAcknowledge n) s)

/-- ACKNOWLEDGE_LOCKOUT_ALL (R47). -/
def execAcknowledgeLockoutAll (h : Header) (s : State) : Host.Outcome State Fault Refusal :=
  .next (serve h 64 false bodyAcknowledgeAll s)

/-- An entry is silenced, with a report if its flag was clear (R45, R48). -/
def silence (n : Fin 32) (s : State) : State :=
  if s.ilk.entries[n].silenced then s
  else raise (.lockout n) (s.modEntry n fun e => { e with silenced := true })

/-- Silence Alarm (R48). -/
def bodySilenceAlarm : Body := fun _ _ s =>
  let sounders := s.ilk.active.filter fun n => (entryActions s n).alarm
  (alarmJudge (sounders.foldl (fun s n => silence n s) s), .bare .ok)

/-- SILENCE_ALARM (R48). -/
def execSilenceAlarm (h : Header) (s : State) : Host.Outcome State Fault Refusal :=
  .next (serve h 65 false bodySilenceAlarm s)

/-- The entry character of Read Lockouts (R163), with bit 7 given. -/
def entryChar (s : State) (top : Bool) (n : Fin 32) : Byte :=
  let e := s.ilk.entries[n]
  byte (n.val + 32 * bit (e.state == .held) + 64 * bit e.silenced + 128 * bit top)

/-- The data of Read Lockouts (R52, R163): past 20 entries, bit 7 of the first six characters carries the
full count. -/
def lockoutsData (s : State) : List Byte :=
  let count := s.ilk.active.length
  ((s.ilk.active.take 20).zipIdx).map fun e =>
    entryChar s (decide (20 < count) && decide (e.2 < 6) && count.testBit (5 - e.2)) e.1

/-- READ_LOCKOUTS (R52, R163). -/
def execReadLockouts (h : Header) (s : State) : Host.Outcome State Fault Refusal :=
  .next (serve h 3 true (fun _ _ s => (s, .withData (lockoutsData s))) s)

/-- The position of an entry in the active list, counted from 1, or 0 (R52). -/
def listPosition (s : State) (n : Fin 32) : Nat :=
  if s.ilk.active.contains n then s.ilk.active.idxOf n + 1 else 0

/-- The time remaining on an entry's delay timer, in ms, 0 unless PENDING (R52). -/
def delayLeft (e : Entry) : Nat := if e.state = .pending then e.delay.getD 0 / 1000 else 0

/-- The data of Read Entry (R52, R164). -/
def entryData (s : State) (n : Fin 32) : List Byte :=
  let e := s.ilk.entries[n]
  [byte n.val, byte (if n.val < 16 then 255 else entrySource s n), byte (entryModes s n).code,
   byte (entryActions s n).code, byte (bit (entryLatches s n))]
  ++ halfBytes (fitHalf (entryDelay s n))
  ++ [byte e.state.code, byte (bit e.silenced)]
  ++ halfBytes (fitHalf (delayLeft e))
  ++ [byte (listPosition s n)]

/-- Read Entry (R52, R164). -/
def bodyReadEntry (n : Byte) : Body := fun _ _ s =>
  if h : n.toNat < 32 then (s, .withData (entryData s ⟨n.toNat, h⟩)) else unchanged s .badValue

/-- READ_ENTRY (R52). -/
def execReadEntry (h : Header) (n : Byte) (s : State) : Host.Outcome State Fault Refusal :=
  .next (serve h 4 true (bodyReadEntry n) s)

end Sys2Proof.Machine
end

