-- ==== Sys2Proof/Machine/PtoCommands.lean ====
section
/-! DEFINITION. The PTO controller's commands (chapter 3): PTO_ENGAGE, PTO_RELEASE, CLEAR_PTO_FAULT and the
expiries of its timers. -/

namespace Sys2Proof.Machine

/-- PTO Engage, judged in the order of R57. -/
def bodyPtoEngage : Body := fun st _ s =>
  if st = .service then unchanged s .notPermitted
  else if s.auth.holder ≠ some st then unchanged s .noAuthority
  else if inForce s (·.inhibitPto) then unchanged s .lockedOut
  else
    match s.pto.state with
    | .engaged => unchanged s .ok
    | .qualify => unchanged s .busy
    | .engaging => unchanged s .busy
    | .releasing => unchanged s .busy
    | .fault => unchanged s .notPermitted
    | .disengaged =>
      if s.ilk.mode ≠ .parked then unchanged s .notPermitted
      else if s.out.lines[ptoSol].diag.faulty then unchanged s .notPermitted
      else
        let s1 := s.modPto fun p => ({ p.noTimers with
          state := .qualify, abandon := none, window := some (ms (s.cfgN 70)) }).qualified
            (failingCondition s) (ms (s.cfgN 71))
        (ptoPublish .disengaged s1, .bare .ok)

/-- PTO_ENGAGE (R57). -/
def execPtoEngage (h : Header) (s : State) : Host.Outcome State Fault Refusal :=
  .next (serve h 32 false bodyPtoEngage s)

/-- PTO Release, judged in the order of R65. -/
def bodyPtoRelease : Body := fun st _ s =>
  if st = .service then unchanged s .notPermitted
  else
    match s.pto.state with
    | .disengaged => unchanged s .ok
    | .fault => unchanged s .ok
    | .releasing => unchanged s .ok
    | .qualify => (enterDisengaged (some .released) s, .bare .ok)
    | .engaging => (enterSpinDown s, .bare .ok)
    | .engaged => (enterSpinDown s, .bare .ok)

/-- PTO_RELEASE (R65). -/
def execPtoRelease (h : Header) (s : State) : Host.Outcome State Fault Refusal :=
  .next (serve h 33 false bodyPtoRelease s)

/-- Clear PTO Fault, judged in the order of R70. -/
def bodyClearPtoFault : Body := fun st _ s =>
  if st = .service then unchanged s .notPermitted
  else if s.pto.state ≠ .fault then unchanged s .ok
  else if s.disc[2].active then unchanged s .notPermitted
  else (enterDisengaged none s, .bare .ok)

/-- CLEAR_PTO_FAULT (R70). -/
def execClearPtoFault (h : Header) (s : State) : Host.Outcome State Fault Refusal :=
  .next (serve h 34 false bodyClearPtoFault s)

/-- WINDOW_TIMER_EXPIRY: QUALIFY ends in DISENGAGED, with the first condition false at the latest judgment, or
NOT_HELD (R58). -/
def execWindowTimerExpiry (s : State) : Host.Outcome State Fault Refusal :=
  if s.pto.state = .qualify ∧ s.pto.window.isSome then
    .next (settle (enterDisengaged (some (s.pto.failing.getD .notHeld)) s))
  else .next s

/-- HOLD_TIMER_EXPIRY: the conditions have held for the hold time, and the state becomes ENGAGING (R58). -/
def execHoldTimerExpiry (s : State) : Host.Outcome State Fault Refusal :=
  if s.pto.state = .qualify ∧ s.pto.hold.isSome then .next (settle (enterEngaging s)) else .next s

/-- CONFIRM_TIMER_EXPIRY: the state becomes FAULT, CONFIRM_TIMEOUT (R62). -/
def execConfirmTimerExpiry (s : State) : Host.Outcome State Fault Refusal :=
  if s.pto.state = .engaging ∧ s.pto.confirm.isSome then .next (settle (enterFault .confirmTimeout s))
  else .next s

/-- SPIN_DOWN_TIMER_EXPIRY: the DROP stage begins (R66). -/
def execSpinDownTimerExpiry (s : State) : Host.Outcome State Fault Refusal :=
  if s.pto.state = .releasing ∧ s.pto.stage = some .spinDown ∧ s.pto.stageTimer.isSome then
    .next (settle (enterDrop s))
  else .next s

/-- DROP_TIMER_EXPIRY: the state becomes FAULT, STUCK_ENGAGED (R67). -/
def execDropTimerExpiry (s : State) : Host.Outcome State Fault Refusal :=
  if s.pto.state = .releasing ∧ s.pto.stage = some .drop ∧ s.pto.stageTimer.isSome then
    .next (settle (enterFault .stuckEngaged s))
  else .next s

end Sys2Proof.Machine
end

