-- ==== Sys2Proof/Machine/GovernorCommands.lean ====
section
/-! DEFINITION. The governor's commands (chapter 4): SET_GOVERNOR and UPDATE_TIMER_EXPIRY. -/

namespace Sys2Proof.Machine

/-- The mode that Set Governor's first payload character names (R78, table 10.1). -/
def governorMode (m : Byte) : Option GovState :=
  if m = 1 then some .idle else if m = 2 then some .pressure else if m = 3 then some .speed else none

/-- Set Governor is taken (R79): the setpoint is clamped on the newest accepted settings and stored, D is
kept, the fallback flag is cleared and a report is raised. -/
def takeGovernor (m : GovState) (setpoint : Int) (s : State) : State × Answer :=
  let inRange :=
    match m with
    | .pressure => clampInt 0 (s.cfg 100) setpoint
    | .speed => clampInt s.shadow.nidle s.shadow.nmax setpoint
    | _ => 0
  let s1 := raise .governor (s.modGov fun g => { g with
    state := m, fallback := false
    ps := if m = .pressure then inRange else g.ps
    ns := if m = .speed then inRange else g.ns })
  let clamped := (m == .pressure || m == .speed) && inRange != setpoint
  (s1, ⟨if clamped then .clamped else .ok, halfBytes (fitInt inRange), []⟩)

/-- Set Governor, judged in the order of R78. -/
def bodySetGovernor (mode : Byte) (setpoint : Half) : Body := fun st _ s =>
  match governorMode mode with
  | none => unchanged s .badValue
  | some m =>
    let raised := m == .pressure || m == .speed
    if st = .service then unchanged s .notPermitted
    else if raised ∧ s.auth.holder ≠ some st then unchanged s .noAuthority
    else if s.gov.state = .off then unchanged s .notPermitted
    else if raised ∧ s.pto.state = .releasing then unchanged s .notPermitted
    else if m = .pressure ∧ s.analog.dis.valid = false then unchanged s .notPermitted
    else takeGovernor m setpoint.toInt s

/-- SET_GOVERNOR (R78, R79). -/
def execSetGovernor (h : Header) (mode : Byte) (setpoint : Half) (s : State) :
    Host.Outcome State Fault Refusal :=
  .next (serve h 40 false (bodySetGovernor mode setpoint) s)

/-- UPDATE_TIMER_EXPIRY: one update runs, while the governor is not OFF (R80). -/
def execUpdateTimerExpiry (s : State) : Host.Outcome State Fault Refusal :=
  match s.gov.updateTimer, s.gov.demand with
  | some _, some d => if s.gov.state = .off then .next s else .next (governorUpdate d s)
  | _, _ => .next s

end Sys2Proof.Machine
end

