-- ==== Sys2Proof/Machine/TankCommands.lean ====
section
/-! DEFINITION. The tank monitor's requests and primer timers (chapter 6): TANK_VALVE, FOAM_PUMP,
SET_FILL_MODE, PRIMER_START, PRIMER_STOP, PRIME_TIMER_EXPIRY and RUN_TIMER_EXPIRY. -/

namespace Sys2Proof.Machine

/-- The TANK_VALVE command takes a level and is published (R114, R115, R125). -/
def setTankValve (on : Bool) (s : State) : State :=
  if s.out.lines[tankValveLine].commanded = on then s
  else reconJudge false (judge 8 (command tankValveLine on s))

/-- Tank Valve (R114): 0 CLOSE, 1 OPEN. -/
def bodyTankValve (p : Byte) : Body := fun st _ s =>
  if p ≠ 0 ∧ p ≠ 1 then unchanged s .badValue
  else if st = .service then unchanged s .notPermitted
  else if p = 0 then (setTankValve false s, .bare .ok)
  else if s.auth.holder ≠ some st then unchanged s .noAuthority
  else if s.tank.priming then unchanged s .notPermitted
  else (setTankValve true s, .bare .ok)

/-- TANK_VALVE (R114). -/
def execTankValve (h : Header) (p : Byte) (s : State) : Host.Outcome State Fault Refusal :=
  .next (serve h 56 false (bodyTankValve p) s)

/-- Foam Pump (R116): 0 OFF, 1 ON. -/
def bodyFoamPump (p : Byte) : Body := fun st _ s =>
  if p ≠ 0 ∧ p ≠ 1 then unchanged s .badValue
  else if st = .service then unchanged s .notPermitted
  else if p = 0 then (command foamEn false s, .bare .ok)
  else if s.auth.holder ≠ some st then unchanged s .noAuthority
  else if s.out.lines[foamEn].commanded then unchanged s .ok
  else if s.pto.state ≠ .engaged then unchanged s .notPermitted
  else if s.tank.foam.cls = .reserve then unchanged s .notPermitted
  else (command foamEn true s, .bare .ok)

/-- FOAM_PUMP (R116). -/
def execFoamPump (h : Header) (p : Byte) (s : State) : Host.Outcome State Fault Refusal :=
  .next (serve h 57 false (bodyFoamPump p) s)

/-- The fill mode that Set Fill Mode's payload names (table 10.1). -/
def fillModeOf (p : Byte) : Option FillMode :=
  if p = 0 then some .off else if p = 1 then some .manual else if p = 2 then some .auto else none

/-- Set Fill Mode is taken (R118, steps 1 to 5): the valve is judged on the present Vrep, the latest published, and
one that stays open starts a fresh progress window from it (log entry 38). -/
def takeFillMode (m : FillMode) (s : State) : State :=
  let s1 := judge 15 (s.modTank fun k => { k with fillFault := false, fillWindow := none, fillMode := m })
  let s2 := fillJudgeOn s1.tank.water.vrep s1
  let stays := s.out.lines[fillValve].commanded && s2.out.lines[fillValve].commanded && !s2.out.hold
  let s3 := if stays then freshWindow s2.tank.water.vrep s2 else s2
  raise .fill s3

/-- Set Fill Mode, judged as R118 gives it. -/
def bodySetFillMode (p : Byte) : Body := fun st _ s =>
  match fillModeOf p with
  | none => unchanged s .badValue
  | some m =>
    if st = .service then unchanged s .notPermitted
    else if s.auth.holder ≠ some st then unchanged s .noAuthority
    else (takeFillMode m s, .bare .ok)

/-- SET_FILL_MODE (R118). -/
def execSetFillMode (h : Header) (p : Byte) (s : State) : Host.Outcome State Fault Refusal :=
  .next (serve h 58 false (bodySetFillMode p) s)

/-- A primer run begins (R122). -/
def beginRun (s : State) : State :=
  raise .primer (command primerLine true (s.modTank fun m => { m with
    priming := true, outcome := .none, runTimer := some (ms (1000 * s.cfgN 206))
    primeTimer := if primePressure s then some (ms 1000) else none }))

/-- Primer Start, judged in the order of R122. -/
def bodyPrimerStart : Body := fun st _ s =>
  if st = .service then unchanged s .notPermitted
  else if s.auth.holder ≠ some st then unchanged s .noAuthority
  else if s.tank.priming then unchanged s .ok
  else if s.pto.state ≠ .engaged then unchanged s .notPermitted
  else if s.out.lines[tankValveLine].commanded then unchanged s .notPermitted
  else if s.out.hold then unchanged s .notPermitted
  else (beginRun s, .bare .ok)

/-- PRIMER_START (R122). -/
def execPrimerStart (h : Header) (s : State) : Host.Outcome State Fault Refusal :=
  .next (serve h 59 false bodyPrimerStart s)

/-- Primer Stop (R122). -/
def bodyPrimerStop : Body := fun st _ s =>
  if st = .service then unchanged s .notPermitted else (primerEnd .stopped s, .bare .ok)

/-- PRIMER_STOP (R122). -/
def execPrimerStop (h : Header) (s : State) : Host.Outcome State Fault Refusal :=
  .next (serve h 60 false bodyPrimerStop s)

/-- PRIME_TIMER_EXPIRY: the run ends PRIMED (R123). -/
def execPrimeTimerExpiry (s : State) : Host.Outcome State Fault Refusal :=
  if s.tank.primeTimer.isNone then .next s else .next (primerEnd .primed s)

/-- RUN_TIMER_EXPIRY: the run ends TIMEOUT (R123). -/
def execRunTimerExpiry (s : State) : Host.Outcome State Fault Refusal :=
  if s.tank.runTimer.isNone then .next s else .next (primerEnd .timeout s)

end Sys2Proof.Machine
end

