-- ==== Sys2Proof/Machine/OutputCommands.lean ====
section
/-! DEFINITION. The output unit's commands (sections 7.3 and 7.4): READBACK_CHANGE, BLANK_TIMER_EXPIRY,
MISMATCH_TIMER_EXPIRY, RETRY_TIMER_EXPIRY and CLEAR_OUTPUT_FAULTS. -/

namespace Sys2Proof.Machine

/-- A line judged on its readback outside a retry: the mismatch timer starts or stops (R135). -/
def OutputLine.compare (l : OutputLine) : OutputLine :=
  { l with mismatch := if l.readback = l.effective then none else some (ms 100) }

/-- READBACK_CHANGE: the readback is judged in OK, and in a retry's ON_PHASE once its blank has ended; not
under supply-low, nor on a line whose diagnostics are off (R135, R136, R138). -/
def execReadbackChange (n : Fin 10) (level : Bool) (s : State) : Host.Outcome State Fault Refusal :=
  let l := s.out.lines[n]
  if l.readback = level then .next s
  else
    let s1 := s.modLine n fun l => { l with readback := level }
    if !s.inService || s.analog.supplyLow || !s.diagEnabled n then .next s1
    else
      match l.diag with
      | .ok => .next (s1.modLine n OutputLine.compare)
      | .faultOpen =>
        if l.retryPhase = some .onPhase ∧ l.blank = none then
          .next (s1.modLine n fun l => { l with mismatch := some (ms 100) })
        else .next s1
      | _ => .next s1

/-- BLANK_TIMER_EXPIRY: the readback is judged from now on (R135, R136). A blank stands still under
supply-low (R138). -/
def execBlankTimerExpiry (n : Fin 10) (s : State) : Host.Outcome State Fault Refusal :=
  let l := s.out.lines[n]
  if l.blank.isNone || s.analog.supplyLow then .next s
  else
    match l.diag with
    | .blank => .next (s.modLine n fun l => ({ l with diag := .ok, blank := none } : OutputLine).compare)
    | _ => .next (s.modLine n fun l => { l with blank := none, mismatch := some (ms 100) })

/-- The readers of a line's diag state that has gone into or out of a fault act on it (R139): the interlock unit
re-judges entry 12, then the PTO controller acts on a fault of O0 (R69). The order is the model's: log entry 5. -/
def diagPublished (n : Fin 10) (s : State) : State :=
  let s1 := judge 12 s
  if n = ptoSol ∧ s1.out.lines[n].diag.faulty then ptoOnSolenoidFault s1 else s1

/-- A line enters a fault (R135): the report carries the line as it stands at the change (log entry 13); then a
retry begins where one is due, and the change is published, so that the OUTPUT report stands before entry 12's
(log entry 5). -/
def enterLineFault (n : Fin 10) (d : Diag) (s : State) : State :=
  diagPublished n (beginRetry n (raise (.output n)
    (s.modLine n fun l => { l with diag := d, mismatch := none })))

/-- A good readback ends a retry and the fault (R136). -/
def retryGood (n : Fin 10) (s : State) : State :=
  diagPublished n (raise (.output n)
    (s.modLine n fun l => { l.endRetry with diag := .ok, retryCount := 0 }))

/-- A retry fails (R136): the next one begins while the count is below 3; past that the line follows its
commanded level. -/
def retryFailed (n : Fin 10) (s : State) : State :=
  beginRetry n (drive n (s.modLine n OutputLine.endRetry))

/-- MISMATCH_TIMER_EXPIRY (R135, R136). -/
def execMismatchTimerExpiry (n : Fin 10) (s : State) : Host.Outcome State Fault Refusal :=
  let l := s.out.lines[n]
  if l.mismatch.isNone then .next s
  else if l.retryPhase = some .onPhase then
    .next (settle (if l.readback then retryGood n s else retryFailed n s))
  else .next (settle (enterLineFault n (if l.effective then .faultOpen else .faultStuckOn) s))

/-- RETRY_TIMER_EXPIRY: the OFF_PHASE ends, the line is driven on for the ON_PHASE, and a blank starts
(R136). The retry timer stands still under supply-low (R138). -/
def execRetryTimerExpiry (n : Fin 10) (s : State) : Host.Outcome State Fault Refusal :=
  if s.out.lines[n].retry.isNone || s.analog.supplyLow then .next s
  else .next (drive n (s.modLine n fun l => { l with
    retryPhase := some .onPhase, retry := none, blank := some (s.blankTime n) }))

/-- The lines in fault. -/
def faultyLines (s : State) : List (Fin 10) := allLines.filter fun n => s.out.lines[n].diag.faulty

/-- A line's fault is cleared (R137, steps 1 to 4): its diagnostics begin again with a blank. -/
def clearLine (n : Fin 10) (s : State) : State :=
  let s1 := drive n (s.modLine n fun l => { l.endRetry with retryCount := 0 })
  raise (.output n) (s1.modLine n fun l => { l with
    diag := .blank, mismatch := none, blank := some (s.blankTime n) })

/-- Clear Output Faults (R137): the lines in order, then entry 12 (log entry 5). -/
def bodyClearOutputFaults : Body := fun _ _ s =>
  let lines := faultyLines s
  (judge 12 (lines.foldl (fun s n => clearLine n s) s), .withData [byte lines.length])

/-- CLEAR_OUTPUT_FAULTS (R137). -/
def execClearOutputFaults (h : Header) (s : State) : Host.Outcome State Fault Refusal :=
  .next (serve h 66 false bodyClearOutputFaults s)

/-- A write turns a line's diagnostic enable off (R137): the live table already holds it. -/
def disableLine (n : Fin 10) (s : State) : State :=
  let faulty := s.out.lines[n].diag.faulty
  let s1 := drive n (s.modLine n fun l => { l with
    retryPhase := none, retryCount := 0, blank := none, mismatch := none, retry := none
    blankPending := false, diag := .ok })
  if faulty then judge 12 (raise (.output n) s1) else s1

end Sys2Proof.Machine
end

