-- ==== Sys2Proof/Machine/AuthorityCommands.lean ====
section
/-! DEFINITION. The authority arbiter's commands (chapter 8): TAKE_AUTHORITY, YIELD_AUTHORITY and
SILENCE_TIMER_EXPIRY. -/

namespace Sys2Proof.Machine

/-- Authority is granted to a station (R142, case 3): the lapsed condition ends, with the AUTHORITY report before
entry 14's (log entry 5). -/
def grant (st : Station) (p : Port) (s : State) : State :=
  let s1 := s.modAuth fun a => { a with
    holder := some st, silence := some s.silenceTime, lapsed := false
    servicePort := if st = .service then some p else a.servicePort }
  let s2 := raise .authority s1
  if s.auth.lapsed then judge 14 s2 else s2

/-- A station becomes the pending claimant (R142, case 5). -/
def claim (st : Station) (p : Port) (s : State) : State :=
  raise .authority (s.modAuth fun a => { a with
    claimant := some st, servicePort := if st = .service then some p else a.servicePort })

/-- Take Authority, judged in the order of R142. -/
def bodyTakeAuthority : Body := fun st p s =>
  if st = .service ∧ s.pto.state ≠ .disengaged then unchanged s .notPermitted
  else if s.auth.holder = some st then unchanged s .ok
  else if s.auth.holder = none then (grant st p s, .bare .ok)
  else if s.auth.claimant = some st then unchanged s .pending
  else if s.auth.claimant = none then (claim st p s, .bare .pending)
  else unchanged s .busy

/-- TAKE_AUTHORITY (R142). -/
def execTakeAuthority (h : Header) (s : State) : Host.Outcome State Fault Refusal :=
  .next (serve h 16 false bodyTakeAuthority s)

/-- Yield Authority (R143). -/
def bodyYieldAuthority : Body := fun st _ s =>
  if s.auth.holder = some st then (raise .authority (passOn s), .bare .ok)
  else if s.auth.claimant = some st then (raise .authority (withdrawClaim s), .bare .ok)
  else unchanged s .ok

/-- YIELD_AUTHORITY (R143). -/
def execYieldAuthority (h : Header) (s : State) : Host.Outcome State Fault Refusal :=
  .next (serve h 17 false bodyYieldAuthority s)

/-- The holder has lapsed (R145): the AUTHORITY report, then entry 14 (log entry 5). -/
def lapse (s : State) : State :=
  judge 14 (raise .authority ((passOn s).modAuth fun a => { a with lapsed := true }))

/-- SILENCE_TIMER_EXPIRY (R145). -/
def execSilenceTimerExpiry (s : State) : Host.Outcome State Fault Refusal :=
  if s.auth.silence.isNone then .next s else .next (settle (lapse s))

end Sys2Proof.Machine
end

