-- ==== Sys2Proof/Machine/StoreCommands.lean ====
section
/-! DEFINITION. The settings store's commands (chapter 11): WRITE_SETTING with what each owner does at an
accepted write, READ_SETTING, STORE_SETTINGS and STORE_COMPLETE. -/

namespace Sys2Proof.Machine

/-- A configurable entry returns to CLEAR under its old fields (R36). -/
def clearEntry (n : Fin 32) (s : State) : State :=
  match s.ilk.entries[n].state with
  | .clear => s
  | .pending => s.modEntry n fun e => { e with state := .clear, delay := none }
  | .active => leave n s
  | .held => leave n s

/-- The configurable entry that an item belongs to (R166). -/
def entryOfItem (i : Nat) : Option (Fin 32) :=
  if h : 256 ≤ i ∧ i < 336 then some ⟨16 + (i - 256) / 5, by omega⟩ else none

/-- The tank whose strapping table an item belongs to (R166). -/
def tankOfItem (i : Nat) : Option TankId :=
  if 140 ≤ i ∧ i < 165 then some .water else if 170 ≤ i ∧ i < 195 then some .foam else none

/-- A tank's table has been written (R101, R103, R106): its validity is judged, a valid table seeds the
filter, Vrep is moved into the table's first and last volumes, and an invalid table ends a probe-order
fault (R104). -/
def tableWritten (t : TankId) (s : State) : State :=
  let valid := pointsValid (strapPoints s t)
  let lo := min (firstVolume s t) (lastVolume s t)
  let hi := max (firstVolume s t) (lastVolume s t)
  judge 11 (s.modTankOf t fun k => { k with
    tableValid := valid, reseed := k.reseed || valid, orderFault := k.orderFault && valid
    vrep := clampInt lo hi k.vrep })

/-- A write of Pmax below Ps lowers Ps (R73), with a report in PRESSURE. -/
def pmaxWritten (s : State) : State :=
  if s.cfg 100 < s.gov.ps then
    let s1 := s.modGov fun g => { g with ps := s.cfg 100 }
    if s.gov.state = .pressure then raise .governor s1 else s1
  else s

/-- What the owning block does at an accepted write of item `i`, once the live table holds the value (R167,
case 6). An item not named here is read at its owner's next judgment. -/
def ownerTakes (i : Nat) (s : State) : State :=
  if h : 20 ≤ i ∧ i < 32 then
    let n : Fin 12 := ⟨i - 20, by omega⟩
    if s.disc[n].settled then rejudgeLine n s else s
  else if i = 100 then pmaxWritten s
  else if h : 220 ≤ i ∧ i < 230 then
    let n : Fin 10 := ⟨i - 220, by omega⟩
    if s.diagEnabled n then startBlank n s else disableLine n s
  else
    match tankOfItem i, entryOfItem i with
    | some t, _ => tableWritten t s
    | none, some n => judge n s
    | none, none => s

/-- A write is taken (R167, case 6). -/
def takeWrite (i : Nat) (v : Half) (s : State) : State :=
  let s1 := match entryOfItem i with | some n => clearEntry n s | none => s
  ownerTakes i (s1.modStore fun m => { m with live := tableSet m.live i v })

/-- Whether a write would keep the relation its item belongs to (R167, case 5). -/
def writeRelated (s : State) (i : Nat) (v : Half) : Bool :=
  relationKept (fun j => if j = i then itemValue i v else s.cfg j) i

/-- Write Setting, judged in the order of R167. -/
def bodyWriteSetting (item value : Half) : Body := fun st _ s =>
  let i := item.toNat
  if st ≠ .service then unchanged s .notPermitted
  else
    match itemSpec i with
    | none => unchanged s .badValue
    | some r =>
      if r.parked ∧ (s.ilk.mode ≠ .parked ∨ s.pto.state ≠ .disengaged) then unchanged s .notPermitted
      else if !r.domain.contains (itemValue i value) then unchanged s .badValue
      else if !writeRelated s i value then unchanged s .badValue
      else (takeWrite i value s, .bare .ok)

/-- WRITE_SETTING (R167). -/
def execWriteSetting (h : Header) (item value : Half) (s : State) : Host.Outcome State Fault Refusal :=
  .next (serve h 80 false (bodyWriteSetting item value) s)

/-- Read Setting (R168). -/
def bodyReadSetting (item : Half) : Body := fun _ _ s =>
  match itemSpec item.toNat with
  | none => unchanged s .badValue
  | some _ => (s, .withData (halfBytes item ++ halfBytes (tableValue s.store.live item.toNat)))

/-- READ_SETTING (R168). -/
def execReadSetting (h : Header) (item : Half) (s : State) : Host.Outcome State Fault Refusal :=
  .next (serve h 5 true (bodyReadSetting item) s)

/-- The whole live table, as the values of the image (R169, R171). -/
def liveValues (s : State) : List Half := itemNumbers.map (tableValue s.store.live)

/-- Store Settings (R169). -/
def bodyStoreSettings : Body := fun st _ s =>
  if st ≠ .service then unchanged s .notPermitted
  else if s.store.snapshot.isSome then unchanged s .busy
  else (s.modStore fun m => { m with snapshot := some (liveValues s) }, .bare .ok)

/-- STORE_SETTINGS (R169). -/
def execStoreSettings (h : Header) (s : State) : Host.Outcome State Fault Refusal :=
  .next (serve h 81 false bodyStoreSettings s)

/-- The image that a snapshot makes. -/
def imageOf (vals : List Half) : NvImage := ⟨vals, imageCrc vals⟩

/-- The content of a SETTINGS report (R165, R170). -/
def settingsRecord (ok inUse : Bool) : Record := ⟨byte (bit (!ok)), 0, byte (bit inUse)⟩

/-- A store completes (R170): the image holds what the write left, and it is read back and compared with the
snapshot. -/
def completeStore (snap : List Half) (left : Option NvImage) (s : State) : State :=
  let image := left.getD (imageOf snap)
  let ok := decide (image = imageOf snap)
  let cleared := ok && s.store.defaultsInUse
  let s1 := s.modStore fun m => { m with
    image := image, snapshot := none, defaultsInUse := m.defaultsInUse && !ok }
  let s2 := if cleared then judge 13 s1 else s1
  post .settings (settingsRecord ok s2.store.defaultsInUse) s2

/-- STORE_COMPLETE: the write completes, leaving the snapshot in the image, or what the operand gives
(R170). -/
def execStoreComplete (left : Option NvImage) (s : State) : Host.Outcome State Fault Refusal :=
  match s.store.snapshot with
  | some snap => .next (settle (completeStore snap left s))
  | none => .next s

end Sys2Proof.Machine
end

