-- ==== Sys2Proof/Machine/LinkCommands.lean ====
section
/-! DEFINITION. The reads and the links' commands (chapters 9 and 10): READ_STATUS, READ_MEASUREMENTS,
FETCH_REPORTS, LINK_RESTART, the decoding of a frame (R161), CHARACTER_RECEIVE and GAP_TIMER_EXPIRY. -/

namespace Sys2Proof.Machine

/-! ## Reads -/

/-- The data of Read Status (R163). -/
def statusData (s : State) : List Byte :=
  [byte s.ilk.mode.code, byte s.pto.state.code, byte (stageCode s.pto.stage),
   byte (reasonCode s.pto.reason), byte (abandonCode s.pto.abandon),
   byte s.gov.state.code, byte s.gov.flags]
  ++ halfBytes (fitInt s.gov.setpoint) ++ halfBytes (fitInt (s.gov.demand.getD 0))
  ++ [byte (stationCode s.auth.holder), byte (stationCode s.auth.claimant), byte (bit s.auth.lapsed),
      byte s.ilk.active.length]

/-- READ_STATUS (R163). -/
def execReadStatus (h : Header) (s : State) : Host.Outcome State Fault Refusal :=
  .next (serve h 1 true (fun _ _ s => (s, .withData (statusData s))) s)

/-- Group 0: speeds, flow, road speed and standstill (R164). -/
def group0 (s : State) : List Byte :=
  halfBytes (fitHalf s.pulse.eng.rate) ++ halfBytes (fitHalf s.pulse.pump.rate)
  ++ halfBytes (fitHalf s.pulse.flow.rate) ++ halfBytes (fitInt s.road.speed)
  ++ [byte (bit s.road.standstill)]

/-- Group 1: the analog channels (R164). -/
def group1 (s : State) : List Byte :=
  let a := s.analog
  halfBytes (fitInt a.dis.value) ++ halfBytes (fitInt a.int.value) ++ halfBytes (fitInt a.cas.value)
  ++ halfBytes (fitInt a.sup.value)
  ++ [byte (bit a.dis.valid + 2 * bit a.int.valid + 4 * bit a.hwt.valid + 8 * bit a.hfm.valid
        + 16 * bit a.cas.valid + 32 * bit a.supplyLow)]

/-- The character of a tank in group 2: status, reason and class. -/
def tankChar (k : Tank) : Nat := k.status.code + 4 * bit (k.reason == some .table) + 8 * k.cls.code

/-- The four bits of a probe in group 2. -/
def probeBits (p : Probe) : Nat := p.state.code + 4 * bit p.judged

/-- Group 2: the tanks, the probes and the tank monitor's commands (R164). Vrep is the latest published, which a write
of a strapping table may have moved since its level expiry (R106, R111): log entry 39. -/
def group2 (s : State) : List Byte :=
  let m := s.tank
  let pair := fun i j : Fin 6 => byte (probeBits m.probes[i] + 16 * probeBits m.probes[j])
  [byte (tankChar m.water + 32 * bit m.external + 64 * bit m.fillFault), byte (tankChar m.foam)]
  ++ halfBytes (fitInt m.water.vrep) ++ halfBytes (fitInt (m.water.vf.getD 0))
  ++ halfBytes (fitInt m.foam.vrep) ++ halfBytes (fitInt (m.foam.vf.getD 0))
  ++ [pair 0 1, pair 2 3, pair 4 5]
  ++ (allProbes.map fun i => m.probes[i].reading)
  ++ [byte (bit s.out.lines[tankValveLine].commanded + 2 * bit s.out.lines[foamEn].commanded
        + 4 * bit s.out.lines[fillValve].commanded + 8 * m.fillMode.code + 32 * bit m.priming
        + 64 * m.outcome.code)]

/-- The four bits of a line in group 3. -/
def lineBits (l : OutputLine) : Nat := bit l.commanded + 2 * bit l.effective + 4 * l.diag.code

/-- A four-character field, high byte first; a count that does not fit is a free value (log entry 6). -/
def wordBytes (n : Nat) : List Byte :=
  let w := if n < 4294967296 then BitVec.ofNat 32 n else Config.oversize32 n
  [byte (w.toNat / 16777216), byte (w.toNat / 65536), byte (w.toNat / 256), byte w.toNat]

/-- Group 3: session total, creep count, stop hold and the lines (R164). -/
def group3 (s : State) : List Byte :=
  let pair := fun i j : Fin 10 => byte (lineBits s.out.lines[i] + 16 * lineBits s.out.lines[j])
  wordBytes s.tank.sessionTotal ++ halfBytes (fitInt s.road.creep) ++ [byte (bit s.out.hold)]
  ++ [pair 0 1, pair 2 3, pair 4 5, pair 6 7, pair 8 9]

/-- Read Measurements (R164). -/
def bodyReadMeasurements (g : Byte) : Body := fun _ _ s =>
  if g = 0 then (s, .withData (group0 s))
  else if g = 1 then (s, .withData (group1 s))
  else if g = 2 then (s, .withData (group2 s))
  else if g = 3 then (s, .withData (group3 s))
  else unchanged s .badValue

/-- READ_MEASUREMENTS (R164). -/
def execReadMeasurements (h : Header) (g : Byte) (s : State) : Host.Outcome State Fault Refusal :=
  .next (serve h 2 true (bodyReadMeasurements g) s)

/-- The six characters of a report record (R165). -/
def recordBytes (e : ReportEntry) : List Byte :=
  [byte e.key.kindCode, byte e.key.subject, e.content.state, hiByte e.content.value,
   loByte e.content.value, e.content.flags]

/-- Fetch Reports (R157): the reply carries the first three entries, whose carried flags are set. -/
def bodyFetchReports : Body := fun _ p s =>
  let q := (s.port p).queue
  let head := q.take 3
  let marked := head.map (fun e => { e with carried := true }) ++ q.drop 3
  (s.modPort p fun r => { r with queue := marked },
   ⟨.ok, [byte head.length, byte (q.length - head.length)] ++ head.flatMap recordBytes,
    head.map (·.key)⟩)

/-- FETCH_REPORTS (R157, R165). -/
def execFetchReports (h : Header) (s : State) : Host.Outcome State Fault Refusal :=
  .next (serve h 6 true bodyFetchReports s)

/-- Link Restart (R158): the arbiter acts, the port's queue is emptied, and the six resynchronisation reports
are queued. -/
def bodyLinkRestart : Body := fun _ p s =>
  let s1 := (arbiterRestart p s).modPort p fun r => r.waiting.withQueue []
  (resync p s1, .bare .ok)

/-- LINK_RESTART (R158). -/
def execLinkRestart (h : Header) (s : State) : Host.Outcome State Fault Refusal :=
  .next (serve h 96 false bodyLinkRestart s)

/-! ## Decoding (table 10.3, R161) -/

/-- A kind of request: its code, the payload count it takes, whether it is a read, and its owner's judgment
of a payload. -/
structure Kind where
  payload : Nat
  isRead  : Bool
  body    : List Byte → Body

/-- Payload character `i`. -/
def arg (p : List Byte) (i : Nat) : Byte := p.getD i 0

/-- The two-character payload field from character `i`. -/
def argHalf (p : List Byte) (i : Nat) : Half := ofBytes (arg p i) (arg p (i + 1))

/-- The row of table 10.3 with a kind code. -/
def kindOf (code : Nat) : Option Kind :=
  match code with
  | 1 => some ⟨0, true, fun _ _ _ s => (s, .withData (statusData s))⟩
  | 2 => some ⟨1, true, fun p => bodyReadMeasurements (arg p 0)⟩
  | 3 => some ⟨0, true, fun _ _ _ s => (s, .withData (lockoutsData s))⟩
  | 4 => some ⟨1, true, fun p => bodyReadEntry (arg p 0)⟩
  | 5 => some ⟨2, true, fun p => bodyReadSetting (argHalf p 0)⟩
  | 6 => some ⟨0, true, fun _ => bodyFetchReports⟩
  | 16 => some ⟨0, false, fun _ => bodyTakeAuthority⟩
  | 17 => some ⟨0, false, fun _ => bodyYieldAuthority⟩
  | 32 => some ⟨0, false, fun _ => bodyPtoEngage⟩
  | 33 => some ⟨0, false, fun _ => bodyPtoRelease⟩
  | 34 => some ⟨0, false, fun _ => bodyClearPtoFault⟩
  | 40 => some ⟨3, false, fun p => bodySetGovernor (arg p 0) (argHalf p 1)⟩
  | 48 => some ⟨0, false, fun _ => bodyEnterRoll⟩
  | 49 => some ⟨0, false, fun _ => bodyLeaveRoll⟩
  | 56 => some ⟨1, false, fun p => bodyTankValve (arg p 0)⟩
  | 57 => some ⟨1, false, fun p => bodyFoamPump (arg p 0)⟩
  | 58 => some ⟨1, false, fun p => bodySetFillMode (arg p 0)⟩
  | 59 => some ⟨0, false, fun _ => bodyPrimerStart⟩
  | 60 => some ⟨0, false, fun _ => bodyPrimerStop⟩
  | 64 => some ⟨1, false, fun p => bodyAcknowledge (arg p 0)⟩
  | 65 => some ⟨0, false, fun _ => bodySilenceAlarm⟩
  | 66 => some ⟨0, false, fun _ => bodyClearOutputFaults⟩
  | 80 => some ⟨4, false, fun p => bodyWriteSetting (argHalf p 0) (argHalf p 2)⟩
  | 81 => some ⟨0, false, fun _ => bodyStoreSettings⟩
  | 96 => some ⟨0, false, fun _ => bodyLinkRestart⟩
  | _ => none

/-- The judgment of a kind code and a payload (R161, steps 2 to 4). -/
def decodeBody (code : Nat) (payload : List Byte) : Body :=
  match kindOf code with
  | none => fun _ _ s => unchanged s .unknownKind
  | some k =>
    if payload.length = k.payload then k.body payload else fun _ _ s => unchanged s .badLength

/-- The header that a good frame's characters give on port `p` (table 10.2, R159): address 31 is
broadcast. -/
def frameHeader (p : Port) (f : List Byte) : Header :=
  { port := p
    origin := if (arg f 2).toNat < 128 then .operator else .service
    tag := BitVec.ofNat 7 (arg f 2).toNat
    bcast := arg f 0 == 31 }

/-- Whether a complete frame's two check characters agree with its check (R152, R160). -/
def checkAgrees (f : List Byte) : Bool :=
  let n := f.length
  ofBytes (arg f (n - 2)) (arg f (n - 1)) == crc16 ((f.take (n - 2)).drop 1)

/-- A frame is complete on port `p` (R152, R161): one whose check disagrees is discarded silently. -/
def frameComplete (p : Port) (f : List Byte) (s : State) : State :=
  if checkAgrees f then
    let code := (arg f 3).toNat
    handFrame (frameHeader p f) code (decide (1 ≤ code) && decide (code ≤ 6))
      (decodeBody code ((f.take (f.length - 2)).drop 4)) s
  else s

/-! ## Characters (R150, R151, R154) -/

/-- Bit rates by rate index, in baud (R149). -/
def baudRates : List Nat := [19200, 38400, 57600, 115200]

/-- Three character times of a port, in whole µs (R150). -/
def gapTime (r : PortRecord) : Micros := 33 * 1000000 / baudRates.getD r.rateIndex 57600

/-- A marked character without a framing error (R151, R154): an unsent reply is discarded, and a frame for
the node or for broadcast begins. -/
def markedChar (p : Port) (data : Byte) (s : State) : State :=
  s.modPort p fun r =>
    let r1 := r.cancelReply.waiting
    if data = r.node ∨ data = 31 then { r1 with frame := some [data], gap := some (gapTime r) } else r1

/-- An unmarked character in ASSEMBLING, appended to the partial frame `f` (R151). -/
def appendChar (p : Port) (f : List Byte) (data : Byte) (s : State) : State :=
  let g := f ++ [data]
  let extent := (arg g 1).toNat
  let waiting := s.modPort p PortRecord.waiting
  if 2 ≤ g.length ∧ (extent < 2 ∨ 24 < extent) then waiting
  else if 2 ≤ g.length ∧ g.length = extent + 4 then frameComplete p g waiting
  else s.modPort p fun r => { r with frame := some g, gap := some (gapTime r) }

/-- CHARACTER_RECEIVE (R150 to R154): the character's data bits, its mark bit, and whether its stop bit was
sampled low. -/
def execCharacterReceive (p : Port) (data : Byte) (mark framingError : Bool) (s : State) :
    Host.Outcome State Fault Refusal :=
  if !(s.port p).hears then .next s
  else if mark && !framingError then .next (markedChar p data s)
  else
    match (s.port p).frame with
    | none => .next s
    | some f =>
      if framingError then .next (s.modPort p PortRecord.waiting) else .next (appendChar p f data s)

/-- GAP_TIMER_EXPIRY: the partial frame is discarded (R151). -/
def execGapTimerExpiry (p : Port) (s : State) : Host.Outcome State Fault Refusal :=
  if (s.port p).gap.isNone then .next s else .next (s.modPort p PortRecord.waiting)

end Sys2Proof.Machine
end

