-- ==== Sys2Proof/Machine/Dispatch.lean ====
section
/-! DEFINITION. The one arm of each command: a direct call of its meaning. -/

namespace Sys2Proof.Machine

def exec (i : Instr) (s : State) : Host.Outcome State Fault Refusal :=
  match i with
  | .periodEdge ch => Sys2Proof.Machine.execPeriodEdge ch s
  | .staleTimerExpiry ch => Sys2Proof.Machine.execStaleTimerExpiry ch s
  | .roadEdge ph => Sys2Proof.Machine.execRoadEdge ph s
  | .gateTimerExpiry => Sys2Proof.Machine.execGateTimerExpiry s
  | .sampleTimerExpiry c => Sys2Proof.Machine.execSampleTimerExpiry c s
  | .rawLevelChange line level => Sys2Proof.Machine.execRawLevelChange line level s
  | .debounceExpiry line => Sys2Proof.Machine.execDebounceExpiry line s
  | .brownOut => Sys2Proof.Machine.execBrownOut s
  | .supplyHoldExpiry => Sys2Proof.Machine.execSupplyHoldExpiry s
  | .resetPinAssert => Sys2Proof.Machine.execResetPinAssert s
  | .resetPinRelease => Sys2Proof.Machine.execResetPinRelease s
  | .loadComplete => Sys2Proof.Machine.execLoadComplete s
  | .entryDelayExpiry n => Sys2Proof.Machine.execEntryDelayExpiry n s
  | .cadenceTimerExpiry => Sys2Proof.Machine.execCadenceTimerExpiry s
  | .enterRoll h => Sys2Proof.Machine.execEnterRoll h s
  | .leaveRoll h => Sys2Proof.Machine.execLeaveRoll h s
  | .acknowledgeLockout h n => Sys2Proof.Machine.execAcknowledgeLockout h n s
  | .acknowledgeLockoutAll h => Sys2Proof.Machine.execAcknowledgeLockoutAll h s
  | .silenceAlarm h => Sys2Proof.Machine.execSilenceAlarm h s
  | .ptoEngage h => Sys2Proof.Machine.execPtoEngage h s
  | .ptoRelease h => Sys2Proof.Machine.execPtoRelease h s
  | .clearPtoFault h => Sys2Proof.Machine.execClearPtoFault h s
  | .windowTimerExpiry => Sys2Proof.Machine.execWindowTimerExpiry s
  | .holdTimerExpiry => Sys2Proof.Machine.execHoldTimerExpiry s
  | .confirmTimerExpiry => Sys2Proof.Machine.execConfirmTimerExpiry s
  | .spinDownTimerExpiry => Sys2Proof.Machine.execSpinDownTimerExpiry s
  | .dropTimerExpiry => Sys2Proof.Machine.execDropTimerExpiry s
  | .updateTimerExpiry => Sys2Proof.Machine.execUpdateTimerExpiry s
  | .setGovernor h mode setpoint => Sys2Proof.Machine.execSetGovernor h mode setpoint s
  | .pwmPeriodEnd => Sys2Proof.Machine.execPwmPeriodEnd s
  | .levelTimerExpiry readings => Sys2Proof.Machine.execLevelTimerExpiry readings s
  | .progressWindowExpiry => Sys2Proof.Machine.execProgressWindowExpiry s
  | .tankValve h p => Sys2Proof.Machine.execTankValve h p s
  | .foamPump h p => Sys2Proof.Machine.execFoamPump h p s
  | .setFillMode h p => Sys2Proof.Machine.execSetFillMode h p s
  | .primerStart h => Sys2Proof.Machine.execPrimerStart h s
  | .primerStop h => Sys2Proof.Machine.execPrimerStop h s
  | .primeTimerExpiry => Sys2Proof.Machine.execPrimeTimerExpiry s
  | .runTimerExpiry => Sys2Proof.Machine.execRunTimerExpiry s
  | .readbackChange line level => Sys2Proof.Machine.execReadbackChange line level s
  | .blankTimerExpiry line => Sys2Proof.Machine.execBlankTimerExpiry line s
  | .mismatchTimerExpiry line => Sys2Proof.Machine.execMismatchTimerExpiry line s
  | .retryTimerExpiry line => Sys2Proof.Machine.execRetryTimerExpiry line s
  | .clearOutputFaults h => Sys2Proof.Machine.execClearOutputFaults h s
  | .takeAuthority h => Sys2Proof.Machine.execTakeAuthority h s
  | .yieldAuthority h => Sys2Proof.Machine.execYieldAuthority h s
  | .silenceTimerExpiry => Sys2Proof.Machine.execSilenceTimerExpiry s
  | .characterReceive port data mark framingError => Sys2Proof.Machine.execCharacterReceive port data mark framingError s
  | .gapTimerExpiry port => Sys2Proof.Machine.execGapTimerExpiry port s
  | .replyTransmitStart port => Sys2Proof.Machine.execReplyTransmitStart port s
  | .replyComplete port => Sys2Proof.Machine.execReplyComplete port s
  | .readStatus h => Sys2Proof.Machine.execReadStatus h s
  | .readMeasurements h group => Sys2Proof.Machine.execReadMeasurements h group s
  | .readLockouts h => Sys2Proof.Machine.execReadLockouts h s
  | .readEntry h n => Sys2Proof.Machine.execReadEntry h n s
  | .readSetting h item => Sys2Proof.Machine.execReadSetting h item s
  | .fetchReports h => Sys2Proof.Machine.execFetchReports h s
  | .linkRestart h => Sys2Proof.Machine.execLinkRestart h s
  | .writeSetting h item value => Sys2Proof.Machine.execWriteSetting h item value s
  | .storeSettings h => Sys2Proof.Machine.execStoreSettings h s
  | .storeComplete left => Sys2Proof.Machine.execStoreComplete left s
  | .supplyRiseAbove6V => Sys2Proof.Machine.execSupplyRiseAbove6V s

end Sys2Proof.Machine
end

