-- ==== Sys2Proof/Safety.lean ====
section
/-! DEFINITION. What a sound state of the KL482 is, in the terms the statements use: the laws that the manual
states of its state, each a decidable proposition, and the state in which a request's owner finds the part. -/

namespace Sys2Proof.Machine

/-! ## The laws of the manual -/

/-- The report queue law of one port (R156): one entry per key, so never more than 52, and the attention
line asserted exactly while the queue holds an entry. -/
abbrev QueueLaw (p : PortRecord) : Prop :=
  (p.queue.map (·.key)).Nodup ∧ p.queue.length ≤ 52 ∧ p.attention = !p.queue.isEmpty

/-- The report queue law of both ports (R156). -/
abbrev QueuesLaw (s : State) : Prop := QueueLaw s.links.a ∧ QueueLaw s.links.b

/-- The active list law (R42): each number at most once, and exactly the entries ACTIVE or HELD. -/
abbrev ActiveLaw (s : State) : Prop :=
  s.ilk.active.Nodup ∧
  ∀ n : Fin 32, n ∈ s.ilk.active ↔ s.ilk.entries[n].state = .active ∨ s.ilk.entries[n].state = .held

/-- A delay timer is present in PENDING and in no other state (R33). -/
abbrev DelayLaw (s : State) : Prop :=
  ∀ n : Fin 32, s.ilk.entries[n].delay.isSome = true ↔ s.ilk.entries[n].state = .pending

/-- The authority law (R141): the claimant is never the holder, none claims while none holds, SERVICE neither
holds nor claims outside DISENGAGED, the service port is recorded exactly while SERVICE holds or claims, and
the silence timer runs exactly while a station holds. -/
abbrev AuthorityLaw (s : State) : Prop :=
  (s.auth.holder = none → s.auth.claimant = none) ∧
  (s.auth.claimant ≠ none → s.auth.claimant ≠ s.auth.holder) ∧
  (s.auth.holder = some .service ∨ s.auth.claimant = some .service → s.pto.state = .disengaged) ∧
  (s.auth.servicePort.isSome = true ↔
    s.auth.holder = some .service ∨ s.auth.claimant = some .service) ∧
  (s.auth.silence.isSome = true ↔ s.auth.holder.isSome = true)

/-- The mode law (R28): PUMP or ROLL only while the PTO controller is ENGAGED or RELEASING. -/
abbrev ModeLaw (s : State) : Prop :=
  s.ilk.mode = .pump ∨ s.ilk.mode = .roll → s.pto.state = .engaged ∨ s.pto.state = .releasing

/-- Which fields of the PTO context are present in which state (R53). -/
abbrev PtoLaw (s : State) : Prop :=
  (s.pto.stage.isSome = true ↔ s.pto.state = .releasing) ∧
  (s.pto.reason.isSome = true ↔ s.pto.state = .fault) ∧
  (s.pto.abandon.isSome = true → s.pto.state = .disengaged) ∧
  (s.pto.window.isSome = true ↔ s.pto.state = .qualify) ∧
  (s.pto.hold.isSome = true → s.pto.state = .qualify) ∧
  (s.pto.confirm.isSome = true ↔ s.pto.state = .engaging) ∧
  (s.pto.stageTimer.isSome = true ↔ s.pto.state = .releasing) ∧
  (s.pto.slip = true → s.pto.state = .engaged)

/-- Whether R56 has PTO_SOL commanded on: in ENGAGING, in ENGAGED and in the SPIN_DOWN stage. -/
abbrev solenoidWanted (s : State) : Bool :=
  s.pto.state == .engaging || s.pto.state == .engaged || s.pto.stage == some .spinDown

/-- PTO_SOL is commanded exactly as R56 has it. -/
abbrev SolenoidLaw (s : State) : Prop := s.out.lines[ptoSol].commanded = solenoidWanted s

/-- The level R129 gives a line in the stop hold: its stop-state, or its kept level for KEEP (R132). -/
abbrev holdLevel (l : OutputLine) : Bool :=
  match l.stopState with
  | .off => false
  | .on => true
  | .keep => l.kept == some true

/-- The level R129 gives a line outside the stop hold: as commanded, but off in a retry's OFF_PHASE. -/
abbrev freeLevel (l : OutputLine) : Bool := l.commanded && l.retryPhase != some .offPhase

/-- The line law (R129): every line stands at the level that R129 gives it, O4 at no level but off while the
water class is FULL; and a kept level stands exactly on the KEEP lines of a stop hold (R128). -/
abbrev LineLaw (s : State) : Prop :=
  ∀ n : Fin 10,
    (s.out.lines[n].effective =
      (!(n == fillValve && s.tank.water.cls == .full) &&
        if s.out.hold then holdLevel s.out.lines[n] else freeLevel s.out.lines[n])) ∧
    (s.out.lines[n].kept.isSome = true ↔ s.out.hold = true ∧ s.out.lines[n].stopState = .keep)

/-- The codes of the stop-states that a line permits (R131). -/
abbrev stopPermitted (n : Fin 10) (x : StopState) : Bool :=
  match n.val, x with
  | 0, .off | 6, .off | 8, .off => true
  | 1, .off | 1, .keep | 4, .off | 4, .keep | 9, .off | 9, .keep => true
  | 7, .on | 7, .keep => true
  | 2, _ | 3, _ | 5, _ => true
  | _, _ => false

/-- Every line's stop-state in use is one it permits (R131). -/
abbrev StopLaw (s : State) : Prop := ∀ n : Fin 10, stopPermitted n s.out.lines[n].stopState = true

/-- The settings law (R167): in a filled table every item has a value in its range or codes, and the
relations hold. Before the load the table is empty. -/
abbrev SettingsLaw (s : State) : Prop :=
  s.store.live = [] ∨
  s.store.live.map (·.1) = itemNumbers ∧ tableInRange s.store.live = true ∧
    tableRelated s.store.live = true

/-- Out of service every block holds its full-reset state (R172), apart from the timebase, the PWM period in
progress, the levels on the pins and the image. -/
abbrev HeldLaw (s : State) : Prop :=
  s.ctl.startup ≠ .running →
    s.pulse = { State.reset.pulse with timebase := s.pulse.timebase } ∧
    s.road = { State.reset.road with phaseA := s.road.phaseA, phaseB := s.road.phaseB } ∧
    s.analog = State.reset.analog ∧
    (∀ n : Fin 12, s.disc[n] = { State.reset.disc[n] with raw := s.disc[n].raw }) ∧
    s.ilk = State.reset.ilk ∧ s.pto = State.reset.pto ∧ s.gov = State.reset.gov ∧
    s.tank = State.reset.tank ∧ s.out.hold = false ∧
    (∀ n : Fin 10, s.out.lines[n] = { State.reset.out.lines[n] with readback := s.out.lines[n].readback }) ∧
    s.auth = State.reset.auth ∧ s.links = State.reset.links ∧
    s.store = { State.reset.store with image := s.store.image }

/-- The duty law (R86), with the fields of R72 that are present when the governor is not OFF: while it is
OFF or a stop hold is in force the duty is 50; otherwise D lies from Nidle to Dmax, and the duty from 100 to
900. -/
abbrev DutyLaw (s : State) : Prop :=
  (s.gov.demand.isSome = true ↔ s.gov.state ≠ .off) ∧ (s.gov.dmax.isSome = true ↔ s.gov.state ≠ .off) ∧
  (s.gov.updateTimer.isSome = true ↔ s.gov.state ≠ .off) ∧
  (s.gov.state = .off ∨ s.out.hold = true → s.gov.duty = 50) ∧
  (s.gov.state ≠ .off →
    s.gov.work.nidle ≤ s.gov.demand.getD 0 ∧ s.gov.demand.getD 0 ≤ s.gov.dmax.getD 0 ∧
    s.gov.dmax.getD 0 ≤ s.gov.work.nmax ∧
    (s.out.hold = false → 100 ≤ s.gov.duty ∧ s.gov.duty ≤ 900))

/-- The demand laws (R81): with FORCE_IDLE in force D is Nidle, and in ROLL it never exceeds the roll cap. -/
abbrev DemandLaw (s : State) : Prop :=
  ∀ d ∈ s.gov.demand,
    (inForce s (·.forceIdle) = true → d = s.gov.work.nidle) ∧
    (s.ilk.mode = .roll → d ≤ s.gov.work.rollCap)

/-- The working copy keeps the bounds and the relation of R73. -/
abbrev WorkLaw (s : State) : Prop :=
  600 ≤ s.gov.work.nidle ∧ s.gov.work.nidle ≤ s.gov.work.rollCap ∧
    s.gov.work.rollCap ≤ s.gov.work.nmax ∧ s.gov.work.nmax ≤ 3000

/-- The governor is OFF exactly while the PTO is neither ENGAGED nor RELEASING (R55, R75). -/
abbrev GovernorStateLaw (s : State) : Prop :=
  s.gov.state ≠ .off ↔ s.pto.state = .engaged ∨ s.pto.state = .releasing

/-- DRIVE_EN is commanded in service exactly as R49 has it. -/
abbrev DriveLaw (s : State) : Prop :=
  s.ctl.startup = .running →
    s.out.lines[driveEn].commanded = (s.ilk.mode != .pump && !inForce s (·.inhibitDrive))

/-- THR_LIMIT is commanded exactly while an entry in the list carries LIMIT_ROAD (R50). -/
abbrev LimitLaw (s : State) : Prop := s.out.lines[thrLimit].commanded = inForce s (·.limitRoad)

/-- The diagnostics of a line (R128, R135, R136): a retry stands in FAULT_OPEN alone, on a line commanded on and
outside a stop hold, its timer runs in the OFF_PHASE alone, and at most three are begun; a blank runs in BLANK
and in an ON_PHASE, a mismatch timer in OK and in an ON_PHASE; and a line whose diagnostics are off stays in OK without any of them (R137). -/
abbrev DiagLaw (s : State) : Prop :=
  ∀ n : Fin 10,
    let l := s.out.lines[n]
    (l.retryPhase ≠ none → l.diag = .faultOpen ∧ l.commanded = true ∧ s.out.hold = false) ∧
    (l.retry ≠ none ↔ l.retryPhase = some .offPhase) ∧
    l.retryCount ≤ 3 ∧ (l.diag = .blank → l.blank ≠ none) ∧
    (l.blank ≠ none → l.diag = .blank ∨ l.retryPhase = some .onPhase) ∧
    (l.mismatch ≠ none → l.diag = .ok ∨ l.retryPhase = some .onPhase) ∧
    (s.cfg (220 + n.val) ≠ 1 → l.diag = .ok ∧ l.mismatch = none ∧ l.blankPending = false)

/-- DRIVE_EN is effective-on only while it is commanded on (R133). -/
abbrev EnableLaw (s : State) : Prop :=
  s.out.lines[driveEn].effective = true → s.out.lines[driveEn].commanded = true

/-- FOAM_EN is commanded on only while the PTO is ENGAGED and the foam class is not RESERVE (R117). -/
abbrev FoamLaw (s : State) : Prop :=
  s.out.lines[foamEn].commanded = true → s.pto.state = .engaged ∧ s.tank.foam.cls ≠ .reserve

/-- ALARM sounds, and its cadence timer runs, exactly while an entry in the list carries ALARM and is not
silenced (R51). -/
abbrev AlarmLaw (s : State) : Prop := s.ilk.cadence.isSome = sounding s

/-- ALARM is commanded off while it does not sound (R51). -/
abbrev HornLaw (s : State) : Prop := s.ilk.cadence = none → s.out.lines[alarmLine].commanded = false

/-- The primer runs only in ENGAGED and outside a stop hold, O6 is commanded on exactly while it runs, its run
timer is present exactly then, and its prime timer runs only then (R112, R122, R123). -/
abbrev PrimerLaw (s : State) : Prop :=
  (s.tank.priming = true → s.pto.state = .engaged ∧ s.out.hold = false) ∧
  s.out.lines[primerLine].commanded = s.tank.priming ∧
  s.tank.runTimer.isSome = s.tank.priming ∧
  (s.tank.primeTimer.isSome = true → s.tank.priming = true)

/-- PUMP_READY is commanded exactly as R130 has it. -/
abbrev ReadyLaw (s : State) : Prop :=
  s.out.lines[pumpReady].commanded =
    (s.pto.state == .engaged && (s.ilk.mode == .pump || s.ilk.mode == .roll))

/-- The stop hold stands exactly while entry 0 is in the active list (R132, R134). -/
abbrev HoldLaw (s : State) : Prop := s.out.hold = true ↔ (0 : Fin 32) ∈ s.ilk.active

/-- No join notice waits between two commands (R44). -/
abbrev NoticesTaken (s : State) : Prop := s.ilk.notices = []

/-- The mode stays PARKED while the PTO is in QUALIFY or ENGAGING (R27, R58). -/
abbrev QualifyLaw (s : State) : Prop :=
  s.pto.state = .qualify ∨ s.pto.state = .engaging → s.ilk.mode = .parked

/-- Entry 0, the pump stop, is ACTIVE exactly while PUMP_STOP is settled and active, and is never PENDING: its
delay is 0 and its mode set holds every mode (R34, R35). -/
abbrev StopTaken (s : State) : Prop :=
  (s.ilk.entries[0].state = .active ↔ lineSource s 3 = true) ∧ s.ilk.entries[0].state ≠ .pending

/-- Entries 1 and 2 stand as the PTO state and PTO_CONFIRM have them (R34, R35): entry 1, whose delay is 0, is
ACTIVE exactly in FAULT and CLEAR elsewhere; entry 2, which has a delay, is PENDING or ACTIVE exactly while
PTO_CONFIRM is settled and active in DISENGAGED or FAULT, and CLEAR elsewhere. Neither latches. -/
abbrev PtoTaken (s : State) : Prop :=
  s.ilk.entries[1].state = (if s.pto.state = .fault then EntryState.active else .clear) ∧
  s.ilk.entries[2].state ≠ .held ∧
  (s.ilk.entries[2].state = .clear ↔
    ¬ (lineSource s 2 = true ∧ (s.pto.state = .disengaged ∨ s.pto.state = .fault)))

/-- Every entry stands as its source has it (R33, R35, R37 to R41): PENDING or ACTIVE only in a mode of its mode
set, HELD only where it latches, PENDING only where its delay is not 0; and PENDING or ACTIVE exactly while its
source is effective. The last is not said of entries 4, 5 and 6, whose limits are settings that a write moves
between their judgments; and entry 3's delay, a setting too, is not read back in PENDING. -/
abbrev SourcesTaken (s : State) : Prop :=
  ∀ n : Fin 32,
    let e := s.ilk.entries[n]
    let taken := e.state = .pending ∨ e.state = .active
    (taken → (entryModes s n).has s.ilk.mode = true) ∧
    (e.state = .held → entryLatches s n = true) ∧
    (e.state = .pending → n = 3 ∨ entryDelay s n ≠ 0) ∧
    (n ≠ 4 → n ≠ 5 → n ≠ 6 → (taken ↔ effective s n = true))

/-- The reported volume law of a tank (R106), with what it rests on: the validity kept of its table is that of
the table as it stands (R101); Vf lies between the first and last volumes of a valid table, or is to be seeded
(R103); and Vrep lies between the first and last volumes of the table, whichever of them is the smaller. -/
abbrev TankLaw (s : State) (k : TankId) : Prop :=
  let lo := min (firstVolume s k) (lastVolume s k)
  let hi := max (firstVolume s k) (lastVolume s k)
  (s.tankOf k).tableValid = pointsValid (strapPoints s k) ∧
  (∀ v ∈ (s.tankOf k).vf, (s.tankOf k).tableValid = true → (s.tankOf k).reseed = false → lo ≤ v ∧ v ≤ hi) ∧
  lo ≤ (s.tankOf k).vrep ∧ (s.tankOf k).vrep ≤ hi

/-- The reported volume law of both tanks, in service. -/
abbrev VolumeLaw (s : State) : Prop :=
  s.ctl.startup = .running → TankLaw s .water ∧ TankLaw s .foam

/-- The laws under which the PTO controller's transitions are stated: those of its own context, of the mode, of
the governor's OFF, of entry 0 and of the settings. Every step keeps each of them. -/
abbrev PtoSound (s : State) : Prop :=
  PtoLaw s ∧ QualifyLaw s ∧ ModeLaw s ∧ StopTaken s ∧ GovernorStateLaw s ∧ SettingsLaw s

/-! ## What a command leaves alone -/

/-- A port's record apart from its report queue and its attention line. -/
abbrev PortKept (p q : PortRecord) : Prop := { q with queue := p.queue, attention := p.attention } = p

/-- `t` is `s` apart from what the blocks may do in answer to a publication: the interlock unit's, the PTO
controller's, the governor's and the output unit's own state, the tank monitor's control state, the zeroed
creep and flow pulse counters, a withdrawn claim, and the report queues. Every measurement, every level, the
settings store, the holder of authority, the links' own state and the waiting commands stand. -/
abbrev Reacted (s t : State) : Prop :=
  t.ctl = s.ctl ∧ { t.pulse with flowCount := s.pulse.flowCount } = s.pulse ∧
  { t.road with creep := s.road.creep } = s.road ∧ t.analog = s.analog ∧ t.disc = s.disc ∧
  t.pwm = s.pwm ∧ t.store = s.store ∧ t.pending = s.pending ∧
  t.tank.levelTimer = s.tank.levelTimer ∧ t.tank.probes = s.tank.probes ∧
  t.tank.water = s.tank.water ∧ t.tank.foam = s.tank.foam ∧ t.tank.levelVrep = s.tank.levelVrep ∧
  t.tank.external = s.tank.external ∧ t.tank.fillFault = s.tank.fillFault ∧
  t.tank.sessionTotal = s.tank.sessionTotal ∧
  { t.auth with claimant := s.auth.claimant, servicePort := s.auth.servicePort } = s.auth ∧
  PortKept s.links.a t.links.a ∧ PortKept s.links.b t.links.b

/-- A report under `k` with content `r` stands in both queues, not carried by any reply (R156). -/
abbrev Reported (k : ReportKey) (r : Record) (t : State) : Prop :=
  ⟨k, r, false⟩ ∈ t.links.a.queue ∧ ⟨k, r, false⟩ ∈ t.links.b.queue

/-- Entry `n` stands at `u`, the active list at `list`, and the LOCKOUT report of the move is queued (R42,
R45). -/
abbrev EntryStands (n : Fin 32) (u : Entry) (list : List (Fin 32)) (t : State) : Prop :=
  t.ilk.entries[n] = u ∧ t.ilk.active = list ∧
  Reported (.lockout n) ⟨byte u.state.code, 0, byte (bit u.silenced)⟩ t

/-- An analog channel after one sample (R16 to R18): the newest four counts and their truncated mean; a run of
ten judgments that disagree with the validity turns it over; the value follows the mean while the channel is
VALID and is held while it is INVALID; the first-judged flag comes with the tenth sample. -/
def sampledChannel (c : AnalogChannel) (x : Count) (lo hi : Nat) (scaled : Nat → Int) (flagged : Bool) :
    AnalogChannel :=
  let list := (x :: c.samples.reverse).take 4 |>.reverse
  let mean := (list.foldl (fun sum y => sum + y.toNat) 0) / list.length
  let agrees := c.valid == (decide (lo ≤ mean) && decide (mean ≤ hi))
  let turns := !agrees && decide (9 ≤ c.run)
  let valid := if turns then !c.valid else c.valid
  { samples := list
    average := mean
    value := if valid then scaled mean else c.value
    valid := valid
    run := if agrees || turns then 0 else c.run + 1
    taken := min 10 (c.taken + 1)
    firstJudged := c.firstJudged || (flagged && decide (9 ≤ c.taken)) }

/-! ## The PTO context in its states (R53): each with the timers of that state alone -/

/-- DISENGAGED, with an abandon cause or without. -/
def ptoDisengaged (cause : Option AbandonCause) : Pto :=
  ⟨.disengaged, none, none, cause, none, none, none, none, false, none⟩

/-- ENGAGING, with the confirm timer just started (R58). -/
def ptoEngaging (s : State) : Pto :=
  ⟨.engaging, none, none, none, none, none, some (ms (s.cfgN 73)), none, false, none⟩

/-- ENGAGED (R61). -/
def ptoEngaged : Pto := ⟨.engaged, none, none, none, none, none, none, none, false, none⟩

/-- FAULT, with its reason (R70). -/
def ptoFault (r : FaultReason) : Pto := ⟨.fault, none, some r, none, none, none, none, none, false, none⟩

/-- What an entry into DROP makes of the context (R67): the drop timer runs, or, with PTO_CONFIRM inactive, the
state is DISENGAGED. -/
def ptoDropped (s : State) : Pto :=
  if s.disc[2].active then
    ⟨.releasing, some .drop, none, none, none, none, none, some (ms (s.cfgN 79)), false, none⟩
  else ptoDisengaged none

/-- What the beginning of a release makes of the context (R66): SPIN_DOWN with its timer running, or, with the
engine at or below the release limit, what the entry into DROP makes of it. -/
def ptoReleased (s : State) : Pto :=
  if s.cfgN 78 < s.pulse.eng.rate then
    ⟨.releasing, some .spinDown, none, none, none, none, none, some (ms (s.cfgN 77)), false, none⟩
  else ptoDropped s

/-- The record of a PTO report (R165). -/
def ptoRecord (p : Pto) : Record :=
  ⟨byte p.state.code, ofBytes (byte (stageCode p.stage)) (byte (reasonCode p.reason)),
    byte (abandonCode p.abandon)⟩

/-- The PTO controller has left the states that hold PTO_SOL on for the context `after` (R56, R67, R70), with
its report; a state that is FAULT or DISENGAGED has taken the governor OFF (R75) and the mode out of PUMP and
ROLL (R28). -/
abbrev PtoMoves (s : State) (after : Pto) (t : State) : Prop :=
  Reacted s t ∧ t.pto = after ∧ Reported .pto (ptoRecord after) t ∧
  t.out.lines[ptoSol].commanded = false ∧
  (after.state ≠ .releasing → t.gov.state = .off) ∧
  (s.ilk.mode = .pump ∨ s.ilk.mode = .roll →
    t.ilk.mode = if after.state = .releasing then s.ilk.mode
      else if s.disc[0].active then .parked else .road)

/-! ## What the judgments of the rules make of the mode, an entry and the PTO context -/

/-- The mode that a judgment of the park brake and of standstill gives, on the values that `s` holds (R26, R32). -/
def modeJudged (s : State) : Mode :=
  let braked := s.disc[0].active
  let still := s.road.standstill
  if s.ilk.mode = .road ∧ braked = true ∧ still = true then .parked
  else if s.ilk.mode = .parked ∧ braked = false ∧ s.pto.state = .disengaged then .road
  else if s.ilk.mode = .roll ∧ braked = true ∧ still = true then .pump
  else s.ilk.mode

/-- The mode has become `m`; where that is a change, a MODE report is queued (R25), and an entry into PUMP has
zeroed the creep counter (R27). -/
abbrev ModeMoved (s : State) (m : Mode) (t : State) : Prop :=
  t.ilk.mode = m ∧
  (m ≠ s.ilk.mode → Reported .mode ⟨byte m.code, 0, 0⟩ t ∧ (m = .pump → t.road.creep = 0))

/-- Where a judgment takes an entry (R38 to R41), by whether its source is effective, its delay in ms and its
latching. -/
def entryMoved (e : Entry) (source : Bool) (delay : Nat) (latches : Bool) : Entry :=
  match e.state, source with
  | .clear, true =>
    if delay = 0 then ⟨.active, none, false⟩ else { e with state := .pending, delay := some (1000 * delay) }
  | .held, true => { e with state := .active }
  | .pending, false => { e with state := .clear, delay := none }
  | .active, false => if latches then { e with state := .held } else ⟨.clear, none, false⟩
  | _, _ => e

/-- The first of the four qualify conditions that is false on the values that `s` holds (R58). -/
def qualifyFailure (s : State) : Option AbandonCause :=
  if s.disc[0].active = false then some .parkBrake
  else if s.disc[1].active = false then some .neutral
  else if s.road.standstill = false then some .moving
  else if s.cfgN 72 < s.pulse.eng.rate then some .engineSpeed
  else none

/-- What a judgment of the qualify conditions makes of the PTO context, in QUALIFY (R58): the hold timer is
stopped where one is false, and otherwise runs, from the hold time if it was stopped. -/
def qualifyJudged (s : State) : Pto :=
  if s.pto.state = .qualify then
    { s.pto with
      failing := qualifyFailure s
      hold := if (qualifyFailure s).isSome then none
        else if s.pto.hold = none then some (1000 * s.cfgN 71) else s.pto.hold }
  else s.pto

/-- Whether engagement is confirmed on the values that `s` holds (R60). -/
def confirmationHolds (s : State) : Bool :=
  let expected := s.pulse.eng.rate * s.cfgN 74 / 1000
  s.disc[2].active && decide (expected * (1000 - s.cfgN 75) / 1000 ≤ s.pulse.pump.rate)

/-- What the PTO controller makes of its context at a publication of a speed that `s` holds. Engine speed: the
qualify conditions (R58), confirmation (R60, R61) and the release limit (R66). Pump-shaft speed: confirmation
and the slip check, which does not run below 500 rpm (R63). Flow: nothing. -/
def ptoOnSpeed (ch : PeriodCh) (s : State) : Pto :=
  if ch = .flow then s.pto
  else if s.pto.state = .engaging then (if confirmationHolds s then ptoEngaged else s.pto)
  else if ch = .eng then
    if s.pto.state = .releasing ∧ s.pto.stage = some .spinDown ∧ s.pulse.eng.rate ≤ s.cfgN 78 then ptoDropped s
    else qualifyJudged s
  else if s.pto.state = .engaged ∧ 500 ≤ s.pulse.eng.rate then
    let expected := s.pulse.eng.rate * s.cfgN 74 / 1000
    { s.pto with slip := decide (s.cfgN 75 < (expected - s.pulse.pump.rate) * 1000 / expected) }
  else s.pto

/-- What the PTO controller makes of its context at a join notice of an entry other than 0 whose actions are `a`
(R59, R62, R64, R65): QUALIFY is abandoned; ENGAGING is released by either action; ENGAGED is released by
RELEASE_PTO alone; and any other state stands. -/
def ptoOnJoin (a : ActionSet) (s : State) : Pto :=
  if s.pto.state = .qualify then ptoDisengaged (some .lockout)
  else if s.pto.state = .engaging ∨ s.pto.state = .engaged ∧ a.releasePto = true then ptoReleased s
  else s.pto

/-- The PTO context has become `after`, and the blocks that read it have answered. A change of state or stage
has its PTO report (R55); PTO_SOL keeps its law (R56); a change of state leaves the governor in IDLE in ENGAGED
and RELEASING and OFF elsewhere (R75, R76); the mode stands while the state does and in RELEASING, becomes PUMP
in ENGAGED (R27), and leaves for PARKED or ROAD by the park brake at DISENGAGED and FAULT (R26, R28); and an
arrival at ENGAGED zeroes the two counters, sets D at Nidle and raises the MODE report (R61). -/
abbrev PtoAnswered (s : State) (after : Pto) (t : State) : Prop :=
  t.pto = after ∧
  (after.state ≠ s.pto.state ∨ after.stage ≠ s.pto.stage → Reported .pto (ptoRecord after) t) ∧
  (SolenoidLaw s → SolenoidLaw t) ∧
  (after.state ≠ s.pto.state →
    t.gov.state = if after.state = .engaged ∨ after.state = .releasing then .idle else .off) ∧
  (s.ilk.mode ≠ .road →
    t.ilk.mode =
      if after.state = s.pto.state ∨ after.state = .releasing then s.ilk.mode
      else if after.state = .engaged then .pump
      else if s.disc[0].active then .parked else .road) ∧
  (after.state = .engaged → s.pto.state ≠ .engaged →
    t.road.creep = 0 ∧ t.pulse.flowCount = 0 ∧ t.gov.demand = some s.shadow.nidle ∧
      Reported .mode ⟨2, 0, 0⟩ t)

/-! ## Filling, and the end of a stop hold -/

/-- The level that R119 commands of FILL_VALVE in a fill mode, on the Vrep of the latest level expiry, the class and
the supply that `s` holds. -/
def fillWanted (mode : FillMode) (s : State) : Bool :=
  s.tank.water.cls != .full &&
    (mode == .manual ||
      mode == .auto && s.tank.external &&
        if s.out.lines[fillValve].commanded then decide (s.tank.levelVrep < s.cfg 202)
        else decide (s.tank.levelVrep ≤ s.cfg 201))

/-- The fill mode after a judgment: a manual fill is complete at class FULL (R119). -/
def fillModeAfter (mode : FillMode) (s : State) : FillMode :=
  if s.tank.water.cls = .full ∧ mode = .manual then .off else mode

/-- A progress window that starts from the Vrep of the latest level expiry (R120). -/
def windowFrom (s : State) : FillWindow := ⟨s.tank.levelVrep, 1000000 * s.cfgN 204⟩

/-- The FILL_VALVE command of `s` has been judged, on the latest level expiry's Vrep, the class and the supply that `u`
holds (R119, R120): valve and mode are as R119 gives them; a valve that opens outside a stop hold starts a fresh
window, one that closes discards it, and otherwise the window is `w`; a change raises a FILL report. -/
abbrev FillJudged (s u : State) (w : Option FillWindow) (t : State) : Prop :=
  let valve := fillWanted s.tank.fillMode u
  let mode := fillModeAfter s.tank.fillMode u
  t.out.lines[fillValve].commanded = valve ∧ t.tank.fillMode = mode ∧
  t.tank.fillWindow = (if valve = s.out.lines[fillValve].commanded then w
    else if valve = true ∧ s.out.hold = false then some (windowFrom u) else none) ∧
  (valve ≠ s.out.lines[fillValve].commanded ∨ mode ≠ s.tank.fillMode →
    Reported .fill ⟨byte mode.code, 0, byte (bit valve + 2 * bit s.tank.fillFault)⟩ t)

/-- The stop hold has ended (R134): no line keeps a level; each stands at the level R129 gives it, and one that
has moved is in a blank; each but the interlock unit's and FILL_VALVE is commanded as it was; a FAULT_OPEN line
commanded on with fewer than three retries has begun one; the duty is D's; and FILL_VALVE has been judged, with
a fresh window where it stands open. -/
abbrev HoldEnded (s t : State) : Prop :=
  t.out.hold = false ∧
  (∀ n : Fin 10, t.out.lines[n].kept = none ∧
    t.out.lines[n].effective =
      (!(n == fillValve && s.tank.water.cls == .full) && freeLevel t.out.lines[n]) ∧
    (t.out.lines[n].effective ≠ s.out.lines[n].effective → s.out.lines[n].diag.faulty = false →
      s.cfg (220 + n.val) = 1 → s.analog.supplyLow = false → t.out.lines[n].diag = .blank)) ∧
  (∀ n : Fin 10, n ≠ driveEn → n ≠ thrLimit → n ≠ alarmLine → n ≠ fillValve →
    t.out.lines[n].commanded = s.out.lines[n].commanded) ∧
  (∀ n : Fin 10, n ≠ thrLimit → n ≠ alarmLine → n ≠ fillValve →
    if s.out.lines[n].diag = .faultOpen ∧ t.out.lines[n].commanded = true ∧ s.out.lines[n].retryCount < 3 then
      t.out.lines[n].retryPhase = some .offPhase ∧ t.out.lines[n].retry = some 1000000 ∧
        t.out.lines[n].retryCount = s.out.lines[n].retryCount + 1
    else t.out.lines[n].retryPhase = none ∧ t.out.lines[n].retryCount = s.out.lines[n].retryCount) ∧
  t.gov.duty = (if t.gov.state = .off then 50 else 100 + ((t.gov.demand.getD 0 - 600) * 800).tdiv 2400) ∧
  t.tank.fillMode = fillModeAfter s.tank.fillMode s ∧
  t.out.lines[fillValve].commanded = fillWanted s.tank.fillMode s ∧
  (fillWanted s.tank.fillMode s = true → t.tank.fillWindow = some (windowFrom s))

/-- A primer run that has ended with an outcome (R123). -/
def primerEnded (o : PrimerOutcome) (s : State) : State :=
  { s with tank := { s.tank with priming := false, outcome := o, runTimer := none, primeTimer := none } }

/-- The primer's beginning or end at the state `u`: O6 is commanded as the primer stands, a PRIMER report is
queued (R127), and nothing else moves. -/
abbrev PrimerMoves (u t : State) : Prop :=
  Reacted u t ∧ t.tank = u.tank ∧ t.ilk = u.ilk ∧ t.pto = u.pto ∧ t.gov = u.gov ∧ t.auth = u.auth ∧
  t.out.hold = u.out.hold ∧ t.out.lines[primerLine].commanded = u.tank.priming ∧
  (∀ m : Fin 10, m ≠ primerLine → t.out.lines[m] = u.out.lines[m]) ∧
  Reported .primer ⟨byte (bit u.tank.priming), 0, byte u.tank.outcome.code⟩ t

/-! ## Requests -/

/-- A request's frame reaches the part: the port listens and is not transmitting (R149, R153), and the frame
does not end a lapse (R145). -/
abbrev Receives (h : Header) (s : State) : Prop :=
  (s.port h.port).listening = true ∧ (s.port h.port).transmitting = false ∧
  (s.auth.holder = some (stationOf h.port h.origin) → s.auth.lapsed = false) ∧ NoticesTaken s

/-- The part once a good frame has reached it and before its request is judged: an unsent reply is discarded
and its entries are no longer carried (R154, R157), the assembler is WAITING, and a frame from the holder has
started the silence timer afresh (R144). -/
def heard (h : Header) (s : State) : State :=
  (s.modPort h.port fun p => { p with
    frame := none, gap := none, reply := none
    queue := if p.reply = none then p.queue else p.queue.map fun e => { e with carried := false } }).modAuth
  fun a => { a with
    silence :=
      if a.holder = some (stationOf h.port h.origin) then some (ms (s.cfgN 240)) else a.silence }

/-- The reply of table 10.2 to a request: none to a broadcast (R155). -/
def replyTo (h : Header) (kind : Nat) (r : Result) (data : List Byte) : Option Reply :=
  if h.bcast then none
  else some ⟨byte ((if h.origin = .service then 128 else 0) + h.tag.toNat), byte kind, byte r.code, data, []⟩

/-- The part with the reply to a request in the slot of the port it arrived on (R152). -/
def answered (h : Header) (kind : Nat) (r : Result) (data : List Byte) (s : State) : State :=
  s.modPort h.port fun p => { p with reply := replyTo h kind r data }

/-- A request that changes nothing is answered with a result alone, by a part that has heard its frame. -/
abbrev Refuses (c : Instr) (h : Header) (kind : Nat) (r : Result) (s : State) : Prop :=
  exec c s = .next (answered h kind r [] (heard h s))

/-! ## Requests on the wire (tables 10.2 and 10.3) -/

/-- What a request carries on the wire: its header, its kind code and its payload (table 10.3). A command
that is no request carries nothing. -/
def wireOf : Instr → Option (Header × Nat × List Byte)
  | .readStatus h => some (h, 1, [])
  | .readMeasurements h group => some (h, 2, [group])
  | .readLockouts h => some (h, 3, [])
  | .readEntry h n => some (h, 4, [n])
  | .readSetting h item => some (h, 5, halfBytes item)
  | .fetchReports h => some (h, 6, [])
  | .takeAuthority h => some (h, 16, [])
  | .yieldAuthority h => some (h, 17, [])
  | .ptoEngage h => some (h, 32, [])
  | .ptoRelease h => some (h, 33, [])
  | .clearPtoFault h => some (h, 34, [])
  | .setGovernor h mode setpoint => some (h, 40, mode :: halfBytes setpoint)
  | .enterRoll h => some (h, 48, [])
  | .leaveRoll h => some (h, 49, [])
  | .tankValve h p => some (h, 56, [p])
  | .foamPump h p => some (h, 57, [p])
  | .setFillMode h p => some (h, 58, [p])
  | .primerStart h => some (h, 59, [])
  | .primerStop h => some (h, 60, [])
  | .acknowledgeLockout h n => some (h, 64, [n])
  | .acknowledgeLockoutAll h => some (h, 64, [255])
  | .silenceAlarm h => some (h, 65, [])
  | .clearOutputFaults h => some (h, 66, [])
  | .writeSetting h item value => some (h, 80, halfBytes item ++ halfBytes value)
  | .storeSettings h => some (h, 81, [])
  | .linkRestart h => some (h, 96, [])
  | _ => none

/-- The characters of a request frame after its address, and before its check: the length, the origin with the
tag, the kind and the payload (table 10.2). -/
def requestBody (h : Header) (kind : Nat) (payload : List Byte) : List Byte :=
  byte (2 + payload.length)
    :: byte ((if h.origin = .service then 128 else 0) + h.tag.toNat) :: byte kind :: payload

/-- The characters of a request frame to a node, or to address 31 where it is broadcast, with its check, high
byte first (R159, R160). -/
def requestFrame (node : Byte) (h : Header) (kind : Nat) (payload : List Byte) : List Byte :=
  (if h.bcast then 31 else node)
    :: (requestBody h kind payload ++ halfBytes (crc16 (requestBody h kind payload)))

end Sys2Proof.Machine
end

