-- ==== Sys2Proof/Certificates/Slice0/Obligations.lean ====
section
/-! DEFINITION. The statements about the KL482, each a proposition over the whole model. -/

open Sys2Proof Sys2Proof.Machine

/-! ## The machine -/

/-- A step takes the command at the front of the queue: it is that command's effect on the state, with the
queue's rest waiting. -/
def Obligations.StepTakesFrontCommand : Prop :=
  ∀ (c : Instr) (rest : List Instr) (s : State),
    step { s with pending := c :: rest } = exec c { s with pending := rest }

/-- On an empty queue one microsecond passes (the model's choice, log entry 1): the timebase counts, every
running timer runs down, those that have run down stand at 0, and a line's blank and retry timers stand while
supply-low holds (R138; a retry's timer too, log entry 25). Nothing else moves. -/
def Obligations.IdleStepPassesTime : Prop :=
  ∀ s : State, s.pending = [] →
    let down (x : Timer) : Timer := x.map (· - 1)
    let low := s.analog.supplyLow
    step s = .next { s with
      ctl := { s.ctl with supplyHold := down s.ctl.supplyHold }
      pulse := { s.pulse with
        timebase := s.pulse.timebase + 1
        eng := { s.pulse.eng with stale := down s.pulse.eng.stale }
        pump := { s.pulse.pump with stale := down s.pulse.pump.stale }
        flow := { s.pulse.flow with stale := down s.pulse.flow.stale } }
      road := { s.road with gateTimer := down s.road.gateTimer }
      analog := { s.analog with sampleTimer := down s.analog.sampleTimer }
      disc := s.disc.map fun l => { l with debounce := down l.debounce }
      ilk := { s.ilk with
        entries := s.ilk.entries.map fun e => { e with delay := down e.delay }
        cadence := down s.ilk.cadence }
      pto := { s.pto with
        window := down s.pto.window, hold := down s.pto.hold
        confirm := down s.pto.confirm, stageTimer := down s.pto.stageTimer }
      gov := { s.gov with updateTimer := down s.gov.updateTimer }
      pwm := { s.pwm with left := down s.pwm.left }
      tank := { s.tank with
        levelTimer := down s.tank.levelTimer
        fillWindow := s.tank.fillWindow.map fun w => { w with left := w.left - 1 }
        runTimer := down s.tank.runTimer, primeTimer := down s.tank.primeTimer }
      out := { s.out with
        lines := s.out.lines.map fun l => { l with
          mismatch := down l.mismatch
          blank := if low then l.blank else down l.blank
          retry := if low then l.retry else down l.retry } }
      auth := { s.auth with silence := down s.auth.silence }
      links := { a := { s.links.a with gap := down s.links.a.gap }
                 b := { s.links.b with gap := down s.links.b.gap } } }

/-- Every command has its effect in every state, and leaves the waiting commands as they are. -/
def Obligations.EveryCommandIsTaken : Prop :=
  ∀ (c : Instr) (s : State), ∃ t, exec c s = .next t ∧ t.pending = s.pending

/-- The state after reset keeps every law that the statements below have a step keep. All of them are laws of the
manual but two clauses: that the working copy before the load keeps the bounds of R73 rests on the defaults it
holds then (the model's choice, log entry 2), and NoticesTaken speaks of the model's own list of join notices (log
entry 9). -/
def Obligations.ResetKeepsTheLaws : Prop :=
  QueuesLaw State.reset ∧ ActiveLaw State.reset ∧ DelayLaw State.reset ∧ AuthorityLaw State.reset ∧
  ModeLaw State.reset ∧ QualifyLaw State.reset ∧ PtoLaw State.reset ∧ SolenoidLaw State.reset ∧
  LineLaw State.reset ∧ StopLaw State.reset ∧ SettingsLaw State.reset ∧ HeldLaw State.reset ∧
  WorkLaw State.reset ∧ DutyLaw State.reset ∧ DemandLaw State.reset ∧ GovernorStateLaw State.reset ∧
  DriveLaw State.reset ∧ EnableLaw State.reset ∧ LimitLaw State.reset ∧ DiagLaw State.reset ∧
  FoamLaw State.reset ∧ AlarmLaw State.reset ∧ HornLaw State.reset ∧ PrimerLaw State.reset ∧
  ReadyLaw State.reset ∧ HoldLaw State.reset ∧ StopTaken State.reset ∧ NoticesTaken State.reset ∧
  PtoTaken State.reset ∧ SourcesTaken State.reset ∧ VolumeLaw State.reset

/-! ## Laws that every step keeps -/

/-- Every step keeps the report queue law (R156): one entry per key, at most 52, and the attention line
asserted exactly while an entry waits. -/
def Obligations.StepKeepsReportQueues : Prop :=
  ∀ s t : State, QueuesLaw s → step s = .next t → QueuesLaw t

/-- Every step keeps the active list law (R42), the delay timers in PENDING alone (R33), entries 0, 1 and 2 where
their sources have them (R34, R35), and the stop hold exactly while entry 0 is listed (R132, R134). And it keeps
every other entry as its source has it, in its mode set, its latching and its delay (R33, R35, R37 to R41), but
entries 4 to 6, whose judgments GateExpiryJudgesSpeed and RoadEdgeIsCounted state. HeldLaw, which
StepKeepsSettingsAndFullReset has every step keep, is the premise for a part that loads. -/
def Obligations.StepKeepsActiveList : Prop :=
  ∀ s t : State,
    ActiveLaw s ∧ DelayLaw s ∧ StopTaken s ∧ PtoTaken s ∧ HoldLaw s ∧ NoticesTaken s → step s = .next t →
    ActiveLaw t ∧ DelayLaw t ∧ StopTaken t ∧ PtoTaken t ∧ HoldLaw t ∧ NoticesTaken t ∧
    (HeldLaw s → SourcesTaken s → SourcesTaken t)

/-- Every step keeps the authority law (R141). -/
def Obligations.StepKeepsAuthority : Prop :=
  ∀ s t : State, AuthorityLaw s → step s = .next t → AuthorityLaw t

/-- Every step keeps the mode law (R28), and the mode PARKED in QUALIFY and ENGAGING (R27, R58). -/
def Obligations.StepKeepsMode : Prop :=
  ∀ s t : State, ModeLaw s ∧ QualifyLaw s → step s = .next t → ModeLaw t ∧ QualifyLaw t

/-- Every step keeps the presence of the PTO context's fields (R53), PTO_SOL commanded as R56 has it, and the
governor not OFF exactly in ENGAGED and RELEASING (R55, R75). -/
def Obligations.StepKeepsPtoContext : Prop :=
  ∀ s t : State, PtoLaw s ∧ SolenoidLaw s ∧ GovernorStateLaw s → step s = .next t →
    PtoLaw t ∧ SolenoidLaw t ∧ GovernorStateLaw t

/-- Every step keeps every line at the level R129 gives it, FILL_VALVE off while the water class is FULL, every
stop-state one the line permits (R131), and every line's diagnostics as R135 to R138 run them. HeldLaw, which
StepKeepsSettingsAndFullReset has every step keep, is the premise for a part that loads. -/
def Obligations.StepKeepsLines : Prop :=
  ∀ s t : State, LineLaw s ∧ StopLaw s ∧ SettingsLaw s ∧ HeldLaw s ∧ DiagLaw s → step s = .next t →
    LineLaw t ∧ StopLaw t ∧ SettingsLaw t ∧ DiagLaw t

/-- Every step keeps the live settings table in range and its relations unbroken (R167); and out of service it
leaves the part in full reset (R172), so that a step that leaves service does so by full reset. -/
def Obligations.StepKeepsSettingsAndFullReset : Prop :=
  ∀ s t : State, SettingsLaw s ∧ HeldLaw s → step s = .next t → SettingsLaw t ∧ HeldLaw t

/-- Every step keeps the bounds of the demand and the duty (R81, R86): from Nidle to Dmax, D equal to Nidle
under FORCE_IDLE, within the roll cap in ROLL, and the duty 50 while OFF or in a stop hold. -/
def Obligations.StepKeepsDemandAndDuty : Prop :=
  ∀ s t : State,
    SettingsLaw s ∧ HeldLaw s ∧ ActiveLaw s ∧ WorkLaw s ∧ DutyLaw s ∧ DemandLaw s → step s = .next t →
    WorkLaw t ∧ DutyLaw t ∧ DemandLaw t

/-- Every step keeps DRIVE_EN commanded as R49 has it, and effective only while it is commanded (R133), and
THR_LIMIT commanded exactly while LIMIT_ROAD is in force (R50). -/
def Obligations.StepKeepsDriveEnableAndLimit : Prop :=
  ∀ s t : State,
    SettingsLaw s ∧ ActiveLaw s ∧ LineLaw s ∧ StopLaw s ∧ HeldLaw s ∧ DriveLaw s ∧ EnableLaw s ∧ LimitLaw s →
    step s = .next t → DriveLaw t ∧ EnableLaw t ∧ LimitLaw t

/-- Every step keeps FOAM_EN commanded on only in ENGAGED with the foam class out of RESERVE (R117), and
PUMP_READY commanded as R130 has it. And it keeps the primer running only in ENGAGED and outside a stop hold, with
O6 commanded on exactly while it runs (R122, R123): a run that ends, but by its own two timers and by full reset,
ends STOPPED with a PRIMER report, as at a PTO state that leaves ENGAGED and at the beginning of a stop hold. -/
def Obligations.StepKeepsFoamAndReady : Prop :=
  ∀ s t : State, FoamLaw s ∧ ReadyLaw s → step s = .next t →
    FoamLaw t ∧ ReadyLaw t ∧
    (PrimerLaw s → PrimerLaw t ∧
      (s.tank.priming = true → t.tank.priming = false → t.ctl.startup = .running →
        s.pending.head? ≠ some .primeTimerExpiry → s.pending.head? ≠ some .runTimerExpiry →
        t.tank.outcome = .stopped ∧ Reported .primer ⟨0, 0, byte PrimerOutcome.stopped.code⟩ t))

/-- Every step keeps the alarm sounding exactly while a listed entry carries ALARM unsilenced, and ALARM commanded
off while it does not sound (R51). A command other than the cadence's expiry that leaves it sounding has either
begun the cadence, ALARM commanded on with 500 ms to its first expiry, or left both as they were; where it did not
sound before, it has begun it. -/
def Obligations.StepKeepsAlarm : Prop :=
  ∀ s t : State, ActiveLaw s ∧ HeldLaw s ∧ AlarmLaw s → step s = .next t →
    AlarmLaw t ∧ (HornLaw s → HornLaw t) ∧
    (s.pending ≠ [] → s.pending.head? ≠ some .cadenceTimerExpiry → t.ilk.cadence ≠ none →
      (t.ilk.cadence = some 500000 ∧ t.out.lines[alarmLine].commanded = true) ∨
      (s.ilk.cadence ≠ none ∧ t.ilk.cadence = s.ilk.cadence ∧
        t.out.lines[alarmLine].commanded = s.out.lines[alarmLine].commanded))

/-- Every step keeps the reported volume law (R106): in service each tank's Vrep lies between the first and last
volumes of its strapping table, its filtered volume between them too while the table is valid and no seeding is
due (R103), and its table is valid exactly where R101 has it valid. And from such a state a level expiry leaves
Vrep between Vlow and Vhigh (R104) in NORMAL and CLAMPED with consistent probes (R105). -/
def Obligations.StepKeepsReportedVolume : Prop :=
  (∀ s t : State, SettingsLaw s ∧ HeldLaw s ∧ VolumeLaw s → step s = .next t → VolumeLaw t) ∧
  (∀ (r : Vector Byte 6) (s t : State), SettingsLaw s ∧ HeldLaw s ∧ VolumeLaw s → s.tank.levelTimer ≠ none →
    exec (.levelTimerExpiry r) s = .next t → ∀ k : TankId,
    let probes : List (Fin 6) := if k = .water then [0, 1, 2, 3] else [4, 5]
    let stands (i : Fin 6) (x : ProbeState) : Bool := t.tank.probes[i].judged && t.tank.probes[i].state == x
    let volume (i : Fin 6) : Int := t.tank.probes[i].volume.getD 0
    let low := ((probes.filter (stands · .wet)).getLast?.map volume).getD (firstVolume s k)
    let high := ((probes.filter (stands · .dry)).head?.map volume).getD (lastVolume s k)
    (t.tankOf k).status = .normal ∨ (t.tankOf k).status = .clamped → (t.tankOf k).orderFault = false →
      low ≤ (t.tankOf k).vrep ∧ (t.tankOf k).vrep ≤ high)

/-! ## Measured inputs (chapter 1) -/

/-- A stamped edge on a period channel (R3 to R6, R8): one that comes less than the minimum period after the
newest stamp changes nothing; any other joins the history, which keeps its newest N+1 stamps, restarts the stale
timer, gives the rate that two or more stamps give, and on FLOW is counted. A stale expiry (R7): the channel
empties its history, stops the timer and publishes a rate of 0; the flow pulse counter stands. A stopped timer
does not expire. A published rate has the PTO controller's answer: engine speed re-judges QUALIFY (R58), on the
engage limit as it stands (log entry 37), confirms in ENGAGING (R60, R61) and ends SPIN_DOWN (R66); pump-shaft
speed confirms in ENGAGING and moves the slip condition in ENGAGED, which stands below 500 rpm (R63). Nothing
else moves but by what other blocks do at the publication. -/
def Obligations.PeriodChannelIsJudged : Prop :=
  (∀ (ch : PeriodCh) (s : State), s.ctl.startup = .running → NoticesTaken s →
    let c := s.period ch
    let now := s.pulse.timebase
    let item := periodBase ch
    let h := ((c.history ++ [now]).reverse.take (s.cfgN (item + 1) + 1)).reverse
    let k := h.length
    let span := (now - h.headD 0).toNat
    let rate :=
      if 2 ≤ k then
        min 9999 (60000000 * (k - 1) * (if ch = .flow then 100 else 1) / (span * s.cfgN (item + 3)))
      else c.rate
    let u := s.modPeriod ch fun _ => ⟨h, rate, some (ms (s.cfgN (item + 2)))⟩
    if c.history ≠ [] ∧ (now - c.history.getLastD 0).toNat < s.cfgN item then
      exec (.periodEdge ch) s = .next s
    else
      ∃ t, exec (.periodEdge ch) s = .next t ∧ Reacted u t ∧
        (ch = .flow → t.pulse.flowCount = s.pulse.flowCount + 1) ∧
        (ch = .pump → 2 ≤ k → s.pto.state = .engaged → 500 ≤ s.pulse.eng.rate →
          let expected := s.pulse.eng.rate * s.cfgN 74 / 1000
          t.pto.slip = decide (s.cfgN 75 < (expected - rate) * 1000 / expected)) ∧
        (PtoSound s → PtoAnswered s (if 2 ≤ k then ptoOnSpeed ch u else s.pto) t)) ∧
  (∀ (ch : PeriodCh) (s : State), NoticesTaken s →
    let u := s.modPeriod ch fun _ => ⟨[], 0, none⟩
    if (s.period ch).stale = none then exec (.staleTimerExpiry ch) s = .next s
    else
      ∃ t, exec (.staleTimerExpiry ch) s = .next t ∧ Reacted u t ∧
        (ch = .flow → t.pulse.flowCount = s.pulse.flowCount) ∧
        (PtoSound s → PtoAnswered s (ptoOnSpeed ch u) t))

/-- A road edge (R11, R14). The command names the phase, and the edge's direction is the turning over of that
phase's kept level (the model's choice, log entry 28). An edge on A counts +1 where A rises with B low or falls
with B high, an edge on B counts +1 where B rises with A high or falls with A low, and every other edge counts
−1. The gate counter and the creep counter take the count, each holding at ±32767, and the new creep count, at
or above the creep limit in PUMP, moves entry 6 (R34, R35). -/
def Obligations.RoadEdgeIsCounted : Prop :=
  ∀ (ph : RoadPhase) (s : State), s.ctl.startup = .running → NoticesTaken s →
    let rises := match ph with | .a => !s.road.phaseA | .b => !s.road.phaseB
    let other := match ph with | .a => s.road.phaseB | .b => s.road.phaseA
    let count : Int := match ph with
      | .a => if rises = other then -1 else 1
      | .b => if rises = other then 1 else -1
    ∃ t, exec (.roadEdge ph) s = .next t ∧
      Reacted { s with road := { s.road with
        phaseA := if ph = .a then !s.road.phaseA else s.road.phaseA
        phaseB := if ph = .b then !s.road.phaseB else s.road.phaseB
        gate := max (-32767) (min 32767 (s.road.gate + count)) } } t ∧
      t.road.creep = max (-32767) (min 32767 (s.road.creep + count)) ∧
      t.ilk.entries[6] = entryMoved s.ilk.entries[6]
        (s.ilk.mode == .pump && decide (s.cfgN 63 ≤ t.road.creep.natAbs)) 0 true ∧
      t.pulse.flowCount = s.pulse.flowCount ∧ t.ilk.mode = s.ilk.mode

/-- A gate expiry (R12, R13): the road speed is Δ × 14400 / counts-per-100 m, truncated toward zero and clamped;
the gate counter is zeroed; the fourth gate of speed 0 makes standstill present, and a gate of any other speed
makes it absent. Entries 4 and 5 are judged on the speed in ROLL (R34). A change of standstill is judged by the
mode machine, which takes ROAD to PARKED (R26) and ROLL to PUMP (R32) with the brake active, and by the qualify
conditions in QUALIFY (R58), on the engage limit as it stands (the model's choice, log entry 37). -/
def Obligations.GateExpiryJudgesSpeed : Prop :=
  ∀ s : State, NoticesTaken s → s.road.gateTimer ≠ none →
    let speed := max (-1500) (min 1500 ((s.road.gate * 14400).tdiv (s.cfg 13)))
    let run := if speed = 0 then min 4 (s.road.zeroRun + 1) else 0
    let still := if speed = 0 then s.road.standstill || run == 4 else false
    let u := { s with road := { s.road with
      speed := speed, gate := 0, zeroRun := run, standstill := still, gateTimer := some 250000 } }
    let rolls (limit : Nat) : Bool := s.ilk.mode == .roll && decide (limit < speed.natAbs)
    ∃ t, exec .gateTimerExpiry s = .next t ∧ Reacted u t ∧
      (s.ilk.mode = .road → t.ilk.mode = if still && s.disc[0].active && !s.road.standstill then .parked
        else .road) ∧
      (PtoSound s →
        t.pto = (if still = s.road.standstill then s.pto else qualifyJudged u) ∧
        ModeMoved s (if still = s.road.standstill then s.ilk.mode else modeJudged u) t ∧
        t.ilk.entries[4] = entryMoved s.ilk.entries[4] (rolls (s.cfgN 61)) 0 false ∧
        t.ilk.entries[5] = entryMoved s.ilk.entries[5] (rolls (s.cfgN 61 + s.cfgN 62)) 3000 true ∧
        (s.ilk.entries[4].state = .clear → rolls (s.cfgN 61) = true → Reported (.lockout 4) ⟨2, 0, 0⟩ t))

/-- A sample expiry (R16 to R19): every channel takes its count and is averaged, judged and scaled; external
supply and supply-low are judged with their hysteresis (R19, R113); supply-low that becomes present ends every
probe's run (R98) and every mismatch timer (R138), and one that ends resumes the diagnostics: a marked line in
OK begins a fresh blank, one whose readback disagrees starts its mismatch timer, and so does a line in an
ON_PHASE whose blank has ended (R138). The casing hot condition and the RELIEF command are judged with their
hysteresis (R89, R90), and an INVALID CAS opens RELIEF and makes the condition absent (R91); an INVALID DIS
makes PRESSURE fall back to SPEED at D, with a GOVERNOR report (R88), from which entry 8 or 9, joining at the
same expiry, forces it to IDLE (R77; DIS before INT and CAS is the model's order, log entry 5), and in every
other case the governor's state stands but for such a join; DIS runs or stops the prime timer (R123); and an
INVALID head channel has its filter seeded afresh (R103). External supply, the casing hot condition and
supply-low move entries 8, 9 and 10 (R34, R35, R115). -/
def Obligations.SampleExpiryJudgesChannels : Prop :=
  ∀ (c : Counts) (s : State), NoticesTaken s → s.analog.sampleTimer ≠ none →
    let head (z : Int) (x : Nat) : Int := max 0 (min 2500 ((((x : Int) - z) * 2500).tdiv 3276))
    let intake (x : Nat) : Int :=
      max (-100) (min 1600 (-100 + (((x : Int) - s.cfg 15) * 1700).tdiv 3276))
    let dis := sampledChannel s.analog.dis c.dis 205 3890 (head (s.cfg 14)) true
    let int := sampledChannel s.analog.int c.int 205 3890 intake true
    let hwt := sampledChannel s.analog.hwt c.hwt 205 3890 (head (s.cfg 16)) true
    let hfm := sampledChannel s.analog.hfm c.hfm 205 3890 (head (s.cfg 17)) true
    let cas := sampledChannel s.analog.cas c.cas 41 4054 (fun x => -40 + ((x : Int) * 200).tdiv 4095) true
    let sup := sampledChannel s.analog.sup c.sup 0 4095 (fun x => ((x : Int) * 360).tdiv 4095) false
    let supply := int.valid &&
      decide ((if s.tank.external then s.cfg 200 - 20 else s.cfg 200) ≤ int.value)
    let low := decide (sup.value < if s.analog.supplyLow then s.cfg 18 + 5 else s.cfg 18)
    ∃ t, exec (.sampleTimerExpiry c) s = .next t ∧
      Reacted { s with
        analog := ⟨dis, int, hwt, hfm, cas, sup, some 10000, low⟩
        tank := { s.tank with
          external := supply
          probes := if low && !s.analog.supplyLow then
              s.tank.probes.map fun p => { p with candidate := none, run := 0 }
            else s.tank.probes
          water := { s.tank.water with reseed := s.tank.water.reseed || !hwt.valid }
          foam := { s.tank.foam with reseed := s.tank.foam.reseed || !hfm.valid } } } t ∧
      (cas.valid = true → t.gov.casingHot =
          decide ((if s.gov.casingHot then s.cfg 103 - 7 else s.cfg 103) ≤ cas.value) ∧
        t.out.lines[relief].commanded = decide
          ((if s.out.lines[relief].commanded then s.cfg 102 - 7 else s.cfg 102) ≤ cas.value)) ∧
      (cas.valid = false → t.gov.casingHot = false ∧ t.out.lines[relief].commanded = true) ∧
      (t.ilk.entries[8] = if supply = s.tank.external then s.ilk.entries[8]
        else entryMoved s.ilk.entries[8] (effective t 8) 0 false) ∧
      t.ilk.entries[9] = entryMoved s.ilk.entries[9] (effective t 9) 0 false ∧
      (t.ilk.entries[10] = if low = s.analog.supplyLow then s.ilk.entries[10]
        else entryMoved s.ilk.entries[10] low 1000 false) ∧ t.ilk.mode = s.ilk.mode ∧
      (let joins (n : Fin 32) : Bool := s.ilk.entries[n].state == .clear && t.ilk.entries[n].state == .active
      let forced := joins 8 || joins 9
      (dis.valid = false → s.gov.state = .pressure → ∀ d ∈ s.gov.demand,
        t.gov.state = (if forced then .idle else .speed) ∧ t.gov.ns = d ∧ t.gov.fallback = true ∧
        Reported .governor ⟨byte t.gov.state.code, fitInt (if forced then 0 else d),
          byte (bit t.gov.cavitation + 2 * bit t.gov.overpressure + 4 + 8 * bit t.gov.capActive)⟩ t) ∧
      (dis.valid = true ∨ s.gov.state ≠ .pressure →
        t.gov.state = (if forced = true ∧ s.gov.state ≠ .off then .idle else s.gov.state) ∧
          t.gov.ns = s.gov.ns ∧ t.gov.fallback = s.gov.fallback)) ∧
      (s.tank.priming = true → t.tank.priming = true ∧ t.tank.primeTimer =
        if dis.valid && decide (s.cfg 205 ≤ dis.value) then some (s.tank.primeTimer.getD 1000000) else none) ∧
      (low = true → s.analog.supplyLow = false → ∀ n : Fin 10, t.out.lines[n].mismatch = none) ∧
      (low = false → s.analog.supplyLow = true → DiagLaw s → ∀ n : Fin 10, n ≠ alarmLine →
        t.out.lines[n].commanded = s.out.lines[n].commanded →
        let l := s.out.lines[n]
        let time := ms ([10, 20, 50, 100, 200, 500, 1000, 2000].getD (s.cfgN (230 + n.val)) 100)
        t.out.lines[n] =
          if l.diag = .ok ∧ l.blankPending = true then
            { l with diag := .blank, blank := some time, mismatch := none, blankPending := false }
          else if s.cfg (220 + n.val) = 1 ∧ l.diag = .ok ∧ l.readback ≠ l.effective then
            { l with mismatch := some 100000, blankPending := false }
          else if l.retryPhase = some .onPhase ∧ l.blank = none then
            { l with mismatch := some 100000, blankPending := false }
          else { l with blankPending := false })

/-- A raw level change in service (R22, R24), of which a level that does not change is none (the model's
reading, log entry 27): an unsettled line's timer starts afresh; a settled line's starts where the new level
reads other than the debounced state and stops where it reads the same. -/
def Obligations.RawLevelChangeIsDebounced : Prop :=
  ∀ (n : Fin 12) (c : Contact) (s : State), s.ctl.startup = .running →
    let reads := if n = 3 then c == .opened
      else if s.cfg (20 + n.val) = 1 then c == .opened else c == .closed
    let time := if n = 3 then 5000 else s.cfgN (40 + n.val) * 1000
    SettingsLaw s → s.store.live ≠ [] →
    exec (.rawLevelChange n c) s =
      .next (if s.disc[n].raw = c then s
        else { s with disc := s.disc.set n { s.disc[n] with
          raw := c
          debounce := if s.disc[n].settled && reads == s.disc[n].active then none else some time } })

/-- A debounce expiry (R22, R24): the line settles on the reading of its present raw level; a park brake that
becomes inactive takes PARKED to ROAD where the PTO is DISENGAGED, and one that becomes active takes ROAD to
PARKED (R26) and ROLL to PUMP (R32) at standstill. The park brake and neutral re-judge the qualify conditions in
QUALIFY (R58), on the engage limit as it stands (the model's choice, log entry 37). PARK_BRAKE moves entry 7,
PTO_CONFIRM entry 2 and PUMP_STOP entry 0 (a stop that joins has its own statement, PumpStopBeginsHold), and D4
to D11 move the configurable entries that name them (R34 to R36), outside QUALIFY and ENGAGING, which a join may
end. -/
def Obligations.DebounceExpirySettlesLine : Prop :=
  ∀ (n : Fin 12) (s : State), SettingsLaw s → s.store.live ≠ [] → NoticesTaken s →
    s.disc[n].debounce ≠ none →
    let reads := if n = 3 then s.disc[n].raw == .opened
      else if s.cfg (20 + n.val) = 1 then s.disc[n].raw == .opened else s.disc[n].raw == .closed
    ∃ t, exec (.debounceExpiry n) s = .next t ∧
      Reacted { s with disc := s.disc.set n { s.disc[n] with
        active := reads, debounce := none, settled := true } } t ∧
      (n = 0 → s.ilk.mode = .parked → s.pto.state = .disengaged → reads = false →
        t.ilk.mode = .road ∧ t.pto.state = .disengaged) ∧
      (n = 0 → s.ilk.mode = .road → reads = true → s.road.standstill = true →
        s.pto.state = .disengaged → t.ilk.mode = .parked ∧ t.pto.state = .disengaged) ∧
      (PtoSound s →
        let u := { s with disc := t.disc }
        (n = 0 → t.pto = qualifyJudged u ∧ ModeMoved s (modeJudged u) t ∧
          t.ilk.entries[7] = entryMoved s.ilk.entries[7] (!reads && s.ilk.mode == .pump) 1000 false) ∧
        (n = 1 → t.pto = qualifyJudged u ∧ t.ilk.mode = s.ilk.mode) ∧
        (n = 2 → t.ilk.entries[2] = entryMoved s.ilk.entries[2]
          (reads && (s.pto.state == .disengaged || s.pto.state == .fault)) 500 false) ∧
        (n = 3 → reads = false ∨ s.ilk.entries[0].state ≠ .clear →
          t.ilk.entries[0] = entryMoved s.ilk.entries[0] reads 0 true ∧ t.pto = s.pto ∧
            t.ilk.mode = s.ilk.mode ∧ t.out.hold = s.out.hold) ∧
        (4 ≤ n.val → s.pto.state ≠ .qualify → s.pto.state ≠ .engaging →
          t.pto = s.pto ∧ t.ilk.mode = s.ilk.mode ∧
          ∀ e : Fin 32, t.ilk.entries[e] =
            if 16 ≤ e.val ∧ s.cfgN (256 + 5 * (e.val - 16)) = n.val then
              entryMoved s.ilk.entries[e]
                (reads && (s.cfgN (257 + 5 * (e.val - 16))).testBit s.ilk.mode.code)
                (s.cfgN (260 + 5 * (e.val - 16))) (s.cfg (259 + 5 * (e.val - 16)) == 1)
            else s.ilk.entries[e]))

/-! ## Full reset and start-up (R20, R171, R172) -/

/-- A brown-out and a low reset pin put every block in full reset (R20, R172). What stands outside the part
stays: its input pins, and the image, which a store in flight leaves corrupt (R170). That an interrupted store
leaves the image's values as they were, under a check that does not agree, is the model's choice (log entry 4),
and so is the timebase of 0 (log entry 23).
Start-up begins when both holds have ended, in either order: the supply's, 10 ms after its rise, and the reset
pin's (R20, R172). Nothing but the reset control moves. -/
def Obligations.ResetHoldsThePart : Prop :=
  (∀ s : State, ∀ c, c = Instr.brownOut ∨ c = Instr.resetPinAssert →
    ∃ t, exec c s = .next t ∧
      t.ctl = (if c = .brownOut then ⟨false, none, s.ctl.pinLow, .held⟩
        else ⟨s.ctl.supplyOk, s.ctl.supplyHold, true, .held⟩) ∧
      HeldLaw t ∧ t.pulse.timebase = 0 ∧ t.pwm = ⟨3, 50, some 4000⟩ ∧
      (t.road.phaseA, t.road.phaseB) = (s.road.phaseA, s.road.phaseB) ∧
      (∀ n : Fin 12, t.disc[n].raw = s.disc[n].raw) ∧
      (∀ n : Fin 10, t.out.lines[n].readback = s.out.lines[n].readback) ∧
      t.store.image.vals = s.store.image.vals ∧
      (s.store.snapshot = none → t.store.image = s.store.image) ∧
      (s.store.snapshot ≠ none → t.store.image.crc ≠ imageCrc t.store.image.vals) ∧
      t.pending = s.pending) ∧
  (∀ s : State,
    exec .supplyRiseAbove6V s =
      .next (if s.ctl.supplyOk then s else { s with ctl := { s.ctl with
        supplyOk := true, supplyHold := some 10000 } }) ∧
    exec .supplyHoldExpiry s =
      .next (if s.ctl.supplyHold = none then s else { s with ctl := { s.ctl with
        supplyHold := none
        startup := if s.ctl.startup = .held ∧ s.ctl.supplyOk = true ∧ s.ctl.pinLow = false then .loading
          else s.ctl.startup } }) ∧
    exec .resetPinRelease s =
      .next (if s.ctl.pinLow = false then s else { s with ctl := { s.ctl with
        pinLow := false
        startup := if s.ctl.startup = .held ∧ s.ctl.supplyOk = true ∧ s.ctl.supplyHold = none
          then .loading else s.ctl.startup } }))

/-- The load completes (R171, R172): a good image fills the live table and leaves defaults-in-use clear, any
other gives every item its default and sets the flag. The blocks begin service in ROAD, with their timers
started, a blank on every line whose diagnostics are on, each tank's table judged (R101) and its Vrep at the
first volume of a valid table or at the smaller of the first and the last of an invalid one (R106), which stands
for the latest level expiry's until there is one (the model's reading, log entry 38), the ports
listening at the loaded rate and address, and in each queue the six resynchronisation reports behind LOCKOUT 13
and LOCKOUT 11, where those stand (R158). -/
def Obligations.LoadBeginsService : Prop :=
  ∀ s : State, HeldLaw s → s.ctl.startup = .loading →
    let good := imageGood s.store.image
    ∃ t, exec .loadComplete s = .next t ∧
      t.ctl = { s.ctl with startup := .running } ∧
      t.store = { s.store with
        live := if good then itemNumbers.zip s.store.image.vals
          else itemNumbers.map fun i => (i, itemDefault i)
        defaultsInUse := !good } ∧
      t.ilk.mode = .road ∧ t.pto = State.reset.pto ∧ t.gov = { State.reset.gov with work := t.shadow } ∧
      t.ilk.active = (if good then [] else [13]) ++
        (if t.tank.water.tableValid && t.tank.foam.tableValid then [] else [11]) ∧
      (∀ k : TankId, t.tankOf k = { State.reset.tankOf k with
        tableValid := pointsValid (strapPoints t k)
        vrep := if pointsValid (strapPoints t k) then firstVolume t k
          else min (firstVolume t k) (lastVolume t k) }) ∧
      t.tank.levelVrep = t.tank.water.vrep ∧ t.tank.levelTimer = some 100000 ∧ t.road.gateTimer = some 250000 ∧
      t.analog.sampleTimer = some 10000 ∧
      (∀ n : Fin 12, t.disc[n].debounce ≠ none ∧ t.disc[n].settled = false) ∧
      (∀ n : Fin 10, t.out.lines[n].diag = if t.cfg (220 + n.val) = 1 then .blank else .ok) ∧
      t.auth = State.reset.auth ∧
      (t.links.a.listening, t.links.a.rateIndex, t.links.a.node) = (true, t.cfgN 340, byte (t.cfgN 341)) ∧
      (t.links.b.listening, t.links.b.rateIndex, t.links.b.node) = (true, t.cfgN 342, byte (t.cfgN 343)) ∧
      t.links.a.queue = t.links.b.queue ∧
      t.links.a.queue.map (·.key) = (t.ilk.active.map ReportKey.lockout) ++
        [.mode, .pto, .governor, .authority, .tank .water, .tank .foam]

/-! ## Apparatus mode and lockout table (chapter 2) -/

/-- The re-judgment of an entry's source (R35, R38 to R42): CLEAR with an effective source becomes ACTIVE and
joins the list at its end, or PENDING where its delay is not 0; PENDING without one returns to CLEAR; ACTIVE
without one becomes HELD in its place, or CLEAR and off the list; HELD with one becomes ACTIVE in its place.
Moves into and out of PENDING change nothing else, and every other move raises a LOCKOUT report (R45). The mode
set, the actions, the latching, the delay and the source of each entry are those of the table of R34, in the bit
codes of chapter 10, and from 16 up those of its five items (R36). -/
def Obligations.JudgmentMovesEntry : Prop :=
  (∀ (n : Fin 32) (s : State),
    let e := s.ilk.entries[n]
    let t := judge n s
    Reacted s t ∧ t.ilk.mode = s.ilk.mode ∧ t.pto = s.pto ∧
    (∀ m : Fin 32, m ≠ n → t.ilk.entries[m] = s.ilk.entries[m]) ∧
    (if effective s n then
      if e.state = .clear then
        if entryDelay s n = 0 then EntryStands n ⟨.active, none, false⟩ (s.ilk.active ++ [n]) t
        else t = s.modEntry n fun e => { e with state := .pending, delay := some (ms (entryDelay s n)) }
      else if e.state = .held then EntryStands n { e with state := .active } s.ilk.active t
      else t = s
    else if e.state = .pending then t = s.modEntry n fun e => { e with state := .clear, delay := none }
    else if e.state = .active then
      if entryLatches s n then EntryStands n { e with state := .held } s.ilk.active t
      else EntryStands n ⟨.clear, none, false⟩ (s.ilk.active.filter (· != n)) t
    else t = s)) ∧
  (∀ (n : Fin 32) (s : State),
    let item := 256 + 5 * (n.val - 16)
    let built := decide (n.val < 16)
    let line (d : Fin 12) : Bool := s.disc[d].settled && s.disc[d].active
    let speed := s.road.speed.natAbs
    let invalid (c : AnalogChannel) : Bool := !c.valid && c.firstJudged
    let sensors := invalid s.analog.dis || invalid s.analog.int || invalid s.analog.hwt || invalid s.analog.hfm ||
      invalid s.analog.cas || decide (∃ i : Fin 6, s.tank.probes[i].state = .fault) ||
      s.tank.water.orderFault || s.tank.foam.orderFault || !s.tank.water.tableValid || !s.tank.foam.tableValid
    let sources := [line 3, s.pto.state == .fault,
      line 2 && (s.pto.state == .disengaged || s.pto.state == .fault), s.pto.slip,
      decide (s.cfgN 61 < speed), decide (s.cfgN 61 + s.cfgN 62 < speed),
      decide (s.cfgN 63 ≤ s.road.creep.natAbs), s.disc[0].settled && !s.disc[0].active,
      s.tank.water.cls == .reserve && s.out.lines[tankValveLine].commanded && !s.tank.external,
      s.gov.casingHot, s.analog.supplyLow, sensors, decide (∃ m : Fin 10, s.out.lines[m].diag.faulty = true),
      s.store.defaultsInUse, s.auth.lapsed, s.tank.fillFault]
    let source := if built then sources.getD n.val false
      else decide (∃ d : Fin 12, 4 ≤ d.val ∧ d.val = s.cfgN item ∧ line d = true)
    let modes := if built then [15, 15, 15, 12, 8, 8, 4, 4, 12, 12, 15, 15, 15, 15, 12, 15].getD n.val 0
      else s.cfgN (item + 1) % 16
    let actions := if built then [46, 34, 33, 40, 48, 36, 40, 32, 40, 40, 32, 32, 32, 32, 32, 32].getD n.val 0
      else s.cfgN (item + 2) % 64
    (entryModes s n).code = modes ∧ (entryActions s n).code = actions ∧
    entryLatches s n = (if built then [0, 3, 5, 6, 12, 13, 14, 15].contains n.val else s.cfg (item + 3) == 1) ∧
    entryDelay s n = (if built then [0, 0, 500, s.cfgN 76, 0, 3000, 0, 1000, 0, 0, 1000].getD n.val 0
      else s.cfgN (item + 4)) ∧
    effective s n = (source && modes.testBit s.ilk.mode.code))

/-- An entry delay expiry (R39, R44): a PENDING entry becomes ACTIVE and joins the list at its end, with its
report. One that carries no PTO action leaves the mode, the PTO and the other entries as they are; one that
carries FORCE_IDLE brings the governor to IDLE at Nidle (R77). One that carries INHIBIT_PTO or RELEASE_PTO has
the PTO controller's answer: QUALIFY is abandoned (R59), ENGAGING begins a release (R62), ENGAGED begins one at
RELEASE_PTO alone (R64, R65), and other states stand; the release reads the release limit as it stands (the
model's choice, log entry 37); where the answer leaves the mode, the list has the entry at its end. An entry in
any other state is left. -/
def Obligations.EntryDelayExpiryJoins : Prop :=
  ∀ (n : Fin 32) (s : State), NoticesTaken s → DutyLaw s →
    let a := entryActions s n
    if s.ilk.entries[n].state ≠ .pending then exec (.entryDelayExpiry n) s = .next s
    else
      (a.releasePto = false → a.inhibitPto = false → n ≠ 0 →
        ∃ t, exec (.entryDelayExpiry n) s = .next t ∧
          Reacted s t ∧ t.ilk.mode = s.ilk.mode ∧ t.pto = s.pto ∧
          t.ilk.entries[n] = ⟨.active, none, false⟩ ∧ t.ilk.active = s.ilk.active ++ [n] ∧
          Reported (.lockout n) ⟨2, 0, 0⟩ t ∧
          (a.forceIdle = true → s.gov.state ≠ .off →
            t.gov.state = .idle ∧ t.gov.demand = some s.gov.work.nidle) ∧
          ∀ m : Fin 32, m ≠ n → t.ilk.entries[m] = s.ilk.entries[m]) ∧
      (a.releasePto = true ∨ a.inhibitPto = true → PtoSound s → PtoTaken s →
        ∃ t, exec (.entryDelayExpiry n) s = .next t ∧
          Reacted s t ∧ PtoAnswered s (ptoOnJoin a s) t ∧
          (t.ilk.mode = s.ilk.mode →
            t.ilk.entries[n] = ⟨.active, none, false⟩ ∧ t.ilk.active = s.ilk.active ++ [n] ∧
            Reported (.lockout n) ⟨2, 0, 0⟩ t))

/-- Enter Roll, in the order of R30, and Leave Roll, in the order of R31. An Enter Roll that is taken makes the
mode ROLL with a MODE report (R25), withdraws nothing from the PTO, brings D within the roll cap (R81), and has
DRIVE_EN commanded on unless an entry in the list carries INHIBIT_DRIVE (R49). A Leave Roll that is taken makes
the mode PUMP with a MODE report, zeroes the creep counter (R27) and has DRIVE_EN commanded off. -/
def Obligations.RollIsEnteredAndLeft : Prop :=
  (∀ (h : Header) (s : State), Receives h s → StopTaken s → SettingsLaw s → DutyLaw s → WorkLaw s →
    let st := stationOf h.port h.origin
    if s.auth.holder ≠ some st then Refuses (.enterRoll h) h 48 .noAuthority s
    else if st ≠ .cab then Refuses (.enterRoll h) h 48 .notPermitted s
    else if s.ilk.mode = .roll then Refuses (.enterRoll h) h 48 .ok s
    else if s.ilk.mode ≠ .pump ∨ s.pto.state ≠ .engaged ∨ s.cfg 60 = 0 then
      Refuses (.enterRoll h) h 48 .notPermitted s
    else
      ∃ t, exec (.enterRoll h) s = .next (answered h 48 .ok [] t) ∧
        Reacted (heard h s) t ∧ t.ilk.mode = .roll ∧ Reported .mode ⟨3, 0, 0⟩ t ∧ t.pto = s.pto ∧
        t.road.creep = s.road.creep ∧ t.pulse.flowCount = s.pulse.flowCount ∧
        (∀ d ∈ t.gov.demand, d ≤ t.gov.work.rollCap) ∧
        t.out.lines[driveEn].commanded = !inForce t (·.inhibitDrive)) ∧
  (∀ (h : Header) (s : State), Receives h s → StopTaken s → SettingsLaw s → ModeLaw s →
    let st := stationOf h.port h.origin
    if st = .service then Refuses (.leaveRoll h) h 49 .notPermitted s
    else if s.ilk.mode ≠ .roll then Refuses (.leaveRoll h) h 49 .ok s
    else if s.road.standstill = false then Refuses (.leaveRoll h) h 49 .notPermitted s
    else
      ∃ t, exec (.leaveRoll h) s = .next (answered h 49 .ok [] t) ∧
        Reacted (heard h s) t ∧ t.ilk.mode = .pump ∧ Reported .mode ⟨2, 0, 0⟩ t ∧ t.pto = s.pto ∧
        t.road.creep = 0 ∧ t.pulse.flowCount = s.pulse.flowCount ∧
        t.out.lines[driveEn].commanded = false)

/-- Acknowledge Lockout. For a single entry, by its state (R46): a HELD entry becomes CLEAR and leaves the list,
with its report (R41). With ALL, by either of its commands (R47): every HELD entry of the list becomes CLEAR and
leaves it, each with its report; the others stand in their order; the reply carries the count. Entry 0's leave
ends a stop hold: the lines take their owners' commands, retries begin, the duty is D's, and FILL_VALVE is
judged, with a fresh progress window where it stands open (R134), on the Vrep of the latest level expiry (R119,
R120); DRIVE_EN, THR_LIMIT and ALARM are judged before the retries (log entry 5). -/
def Obligations.AcknowledgeClearsHeldEntries : Prop :=
  (∀ (h : Header) (e : Fin 32) (n : Byte) (s : State), Receives h s →
    (32 ≤ n.toNat → n ≠ 255 → Refuses (.acknowledgeLockout h n) h 64 .badValue s) ∧
    (n = byte e.val →
      if s.ilk.entries[e].state = .active then Refuses (.acknowledgeLockout h n) h 64 .notPermitted s
      else if s.ilk.entries[e].state ≠ .held then Refuses (.acknowledgeLockout h n) h 64 .ok s
      else
        ∃ t, exec (.acknowledgeLockout h n) s = .next (answered h 64 .ok [] t) ∧
          Reacted (heard h s) t ∧ t.ilk.mode = s.ilk.mode ∧ t.pto = s.pto ∧
          EntryStands e ⟨.clear, none, false⟩ (s.ilk.active.filter (· != e)) t ∧
          (∀ m : Fin 32, m ≠ e → t.ilk.entries[m] = s.ilk.entries[m]) ∧
          t.out.hold = (s.out.hold && e != 0) ∧
          (e = 0 → s.out.hold = true → DiagLaw s → DutyLaw s → HoldEnded s t))) ∧
  (∀ (h : Header) (s : State), Receives h s →
    let held := s.ilk.active.filter fun n => s.ilk.entries[n].state == .held
    exec (.acknowledgeLockout h 255) s = exec (.acknowledgeLockoutAll h) s ∧
    ∃ t, exec (.acknowledgeLockoutAll h) s = .next (answered h 64 .ok [byte held.length] t) ∧
      Reacted (heard h s) t ∧ t.ilk.mode = s.ilk.mode ∧ t.pto = s.pto ∧
      t.ilk.active = s.ilk.active.filter (fun n => s.ilk.entries[n].state != .held) ∧
      (∀ e : Fin 32, t.ilk.entries[e] = if e ∈ held then ⟨.clear, none, false⟩ else s.ilk.entries[e]) ∧
      (∀ e : Fin 32, e ∈ held → Reported (.lockout e) ⟨0, 0, 0⟩ t) ∧
      t.out.hold = (s.out.hold && !decide ((0 : Fin 32) ∈ held)) ∧
      ((0 : Fin 32) ∈ held → s.out.hold = true → DiagLaw s → DutyLaw s → HoldEnded s t))

/-- The alarm (R48, R51). A cadence expiry inverts the ALARM command and starts the timer again with 500 ms; O7
alone answers, and a stopped timer does not expire. Silence Alarm sets the silenced flag of every listed entry
that carries ALARM, with a report where it was clear; a sounding horn is commanded off and its cadence stopped;
nothing else changes. -/
def Obligations.AlarmSoundsUntilSilenced : Prop :=
  (∀ s : State,
    if s.ilk.cadence = none then exec .cadenceTimerExpiry s = .next s
    else
      ∃ t, exec .cadenceTimerExpiry s = .next t ∧ Reacted s t ∧
        t.ilk = { s.ilk with cadence := some 500000 } ∧ t.pto = s.pto ∧ t.gov = s.gov ∧
        t.tank = s.tank ∧ t.auth = s.auth ∧ t.links = s.links ∧ t.out.hold = s.out.hold ∧
        t.out.lines[alarmLine].commanded = !s.out.lines[alarmLine].commanded ∧
        (∀ m : Fin 10, m ≠ alarmLine → t.out.lines[m] = s.out.lines[m])) ∧
  (∀ (h : Header) (s : State), Receives h s →
    let sounds (n : Fin 32) : Bool := decide (n ∈ s.ilk.active) && (entryActions s n).alarm
    ∃ t, exec (.silenceAlarm h) s = .next (answered h 65 .ok [] t) ∧
      Reacted (heard h s) t ∧ t.ilk.mode = s.ilk.mode ∧ t.ilk.active = s.ilk.active ∧
      t.pto = s.pto ∧ t.gov = s.gov ∧ t.tank = s.tank ∧ t.auth = (heard h s).auth ∧
      (∀ n : Fin 32, t.ilk.entries[n] =
        { s.ilk.entries[n] with silenced := s.ilk.entries[n].silenced || sounds n }) ∧
      (∀ n : Fin 32, sounds n = true → s.ilk.entries[n].silenced = false →
        Reported (.lockout n) ⟨byte s.ilk.entries[n].state.code, 0, 1⟩ t) ∧
      t.ilk.cadence = none ∧
      (s.ilk.cadence ≠ none → t.out.lines[alarmLine].commanded = false) ∧
      (∀ m : Fin 10, m ≠ alarmLine → t.out.lines[m] = s.out.lines[m]))

/-! ## Power take-off (chapter 3) -/

/-- PTO Engage, in the order of R57. Taken, it makes the state QUALIFY with the window timer running, the
abandon cause removed, the four qualify conditions of R58 judged in order, and the hold timer running where
all four hold; a PTO report is raised, the mode stays PARKED, and a SERVICE claim is withdrawn (R146). -/
def Obligations.PtoEngageIsJudged : Prop :=
  ∀ (h : Header) (s : State), Receives h s → PtoLaw s →
    let st := stationOf h.port h.origin
    let first : Option AbandonCause :=
      if s.disc[0].active = false then some .parkBrake
      else if s.disc[1].active = false then some .neutral
      else if s.road.standstill = false then some .moving
      else if s.cfgN 72 < s.pulse.eng.rate then some .engineSpeed
      else none
    if st = .service then Refuses (.ptoEngage h) h 32 .notPermitted s
    else if s.auth.holder ≠ some st then Refuses (.ptoEngage h) h 32 .noAuthority s
    else if inForce s (·.inhibitPto) = true then Refuses (.ptoEngage h) h 32 .lockedOut s
    else if s.pto.state = .engaged then Refuses (.ptoEngage h) h 32 .ok s
    else if s.pto.state = .qualify ∨ s.pto.state = .engaging ∨ s.pto.state = .releasing then
      Refuses (.ptoEngage h) h 32 .busy s
    else if s.pto.state = .fault ∨ s.ilk.mode ≠ .parked ∨ s.out.lines[ptoSol].diag = .faultOpen ∨
        s.out.lines[ptoSol].diag = .faultStuckOn then
      Refuses (.ptoEngage h) h 32 .notPermitted s
    else
      ∃ t, exec (.ptoEngage h) s = .next (answered h 32 .ok [] t) ∧
        Reacted (heard h s) t ∧ t.ilk.mode = .parked ∧ Reported .pto ⟨1, 0, 0⟩ t ∧
        t.pto = ⟨.qualify, none, none, none, some (ms (s.cfgN 70)),
          if first = none then some (ms (s.cfgN 71)) else none, none, none, false, first⟩ ∧
        t.out.lines[ptoSol].commanded = s.out.lines[ptoSol].commanded ∧
        t.auth.claimant ≠ some .service

/-- PTO Release, in the order of R65, and what it begins (R66, R67): from QUALIFY the state becomes
DISENGAGED with cause RELEASED; from ENGAGING and ENGAGED it becomes RELEASING, at SPIN_DOWN with PTO_SOL as
it was while the engine stands above the release limit, read as it stands (the model's choice, log entry 37), else
on through DROP. The governor is in IDLE while
the release lasts (R76), and a release that ends takes the mode out of PUMP and ROLL (R28).
Clear PTO Fault, in the order of R70: in FAULT with PTO_CONFIRM inactive the state becomes DISENGAGED with
no reason and no cause. -/
def Obligations.PtoReleaseAndClearAreJudged : Prop :=
  (∀ (h : Header) (s : State), Receives h s → StopTaken s → ModeLaw s → QualifyLaw s →
    let st := stationOf h.port h.origin
    if st = .service then Refuses (.ptoRelease h) h 33 .notPermitted s
    else if s.pto.state = .disengaged ∨ s.pto.state = .fault ∨ s.pto.state = .releasing then
      Refuses (.ptoRelease h) h 33 .ok s
    else
      let after := if s.pto.state = .qualify then ptoDisengaged (some .released) else ptoReleased s
      ∃ t, exec (.ptoRelease h) s = .next (answered h 33 .ok [] t) ∧
        Reacted (heard h s) t ∧ t.pto = after ∧ Reported .pto (ptoRecord after) t ∧
        t.out.lines[ptoSol].commanded =
          (s.out.lines[ptoSol].commanded && after.stage == some .spinDown) ∧
        (s.pto.state ≠ .qualify → t.gov.state = if after.state = .releasing then .idle else .off) ∧
        (s.ilk.mode = .pump ∨ s.ilk.mode = .roll →
          t.ilk.mode = if after.state = .releasing then s.ilk.mode
            else if s.disc[0].active then .parked else .road)) ∧
  (∀ (h : Header) (s : State), Receives h s →
    let st := stationOf h.port h.origin
    if st = .service then Refuses (.clearPtoFault h) h 34 .notPermitted s
    else if s.pto.state ≠ .fault then Refuses (.clearPtoFault h) h 34 .ok s
    else if s.disc[2].active = true then Refuses (.clearPtoFault h) h 34 .notPermitted s
    else
      ∃ t, exec (.clearPtoFault h) s = .next (answered h 34 .ok [] t) ∧
        Reacted (heard h s) t ∧ t.pto = ptoDisengaged none ∧
        Reported .pto (ptoRecord (ptoDisengaged none)) t ∧ t.out.lines[ptoSol].commanded = false ∧
        (s.ilk.mode = .parked → t.ilk.mode = if s.disc[0].active then .parked else .road))

/-- The two ends of QUALIFY (R58). Window expiry: DISENGAGED, with the first condition false at the latest
judgment as its cause, or NOT_HELD, and the mode ROAD where the brake is off (R26). Hold expiry: ENGAGING,
PTO_SOL commanded on and the confirm timer started, or, where confirmation holds at that entry (R60), ENGAGED,
the mode PUMP, the counters zeroed and the governor IDLE at Nidle (R61, R75). Out of QUALIFY neither timer
expires. -/
def Obligations.QualifyEndsAtFirstExpiry : Prop :=
  ∀ s : State, NoticesTaken s → PtoLaw s → QualifyLaw s → StopTaken s → GovernorStateLaw s → SettingsLaw s →
    (s.pto.window = none → exec .windowTimerExpiry s = .next s) ∧
    (s.pto.hold = none → exec .holdTimerExpiry s = .next s) ∧
    (s.pto.window ≠ none →
      ∃ t, exec .windowTimerExpiry s = .next t ∧ Reacted s t ∧
        t.pto = ptoDisengaged (some (s.pto.failing.getD .notHeld)) ∧
        Reported .pto (ptoRecord t.pto) t ∧ t.out.lines[ptoSol].commanded = false ∧
        t.ilk.mode = if s.disc[0].active then .parked else .road) ∧
    (s.pto.hold ≠ none →
      let threshold := s.pulse.eng.rate * s.cfgN 74 / 1000 * (1000 - s.cfgN 75) / 1000
      let confirmed := s.disc[2].active && decide (threshold ≤ s.pulse.pump.rate)
      ∃ t, exec .holdTimerExpiry s = .next t ∧ Reacted s t ∧
        t.pto = (if confirmed then ptoEngaged else ptoEngaging s) ∧
        Reported .pto (ptoRecord t.pto) t ∧ t.out.lines[ptoSol].commanded = true ∧
        (confirmed = false → t.ilk.mode = .parked ∧ t.road.creep = s.road.creep ∧
          t.pulse.flowCount = s.pulse.flowCount ∧ t.gov.state = .off) ∧
        (confirmed = true → t.ilk.mode = .pump ∧ t.road.creep = 0 ∧ t.pulse.flowCount = 0 ∧
          t.gov.state = .idle ∧ t.gov.demand = some s.shadow.nidle))

/-- Three expiries of the PTO controller (R62, R66, R67): the confirm timer's makes the state FAULT with reason
CONFIRM_TIMEOUT, the spin-down timer's begins DROP, which ends at once where PTO_CONFIRM is inactive, and the
drop timer's makes the state FAULT with reason STUCK_ENGAGED. PTO_SOL is commanded off at each, and a state
that is FAULT or DISENGAGED takes the mode out of PUMP and ROLL and the governor OFF. -/
def Obligations.PtoTimersEndTheirStages : Prop :=
  ∀ s : State, NoticesTaken s → PtoLaw s → ModeLaw s → QualifyLaw s → StopTaken s →
    (s.pto.confirm = none → exec .confirmTimerExpiry s = .next s) ∧
    (s.pto.stage ≠ some .spinDown → exec .spinDownTimerExpiry s = .next s) ∧
    (s.pto.stage ≠ some .drop → exec .dropTimerExpiry s = .next s) ∧
    (s.pto.confirm ≠ none → ∃ t, exec .confirmTimerExpiry s = .next t ∧
      PtoMoves s (ptoFault .confirmTimeout) t) ∧
    (s.pto.stage = some .spinDown → ∃ t, exec .spinDownTimerExpiry s = .next t ∧
      PtoMoves s (ptoDropped s) t) ∧
    (s.pto.stage = some .drop → ∃ t, exec .dropTimerExpiry s = .next t ∧
      PtoMoves s (ptoFault .stuckEngaged) t)

/-- A publication of PTO_CONFIRM, at its debounce expiry (R60, R61, R64, R67): in ENGAGING an active
confirmation with the pump shaft at the threshold, under the slip limit as it stands (the model's choice, log
entry 37), engages; in ENGAGED an inactive one is FAULT with reason CONFIRM_LOST; in DROP an inactive one ends
the release; and otherwise the PTO context stands. -/
def Obligations.ConfirmationMovesPto : Prop :=
  ∀ s : State, NoticesTaken s → PtoLaw s → QualifyLaw s → StopTaken s → GovernorStateLaw s →
    SettingsLaw s → s.store.live ≠ [] → s.disc[2].debounce ≠ none →
    let made := if s.cfg 22 = 1 then s.disc[2].raw == .opened else s.disc[2].raw == .closed
    let threshold := s.pulse.eng.rate * s.cfgN 74 / 1000 * (1000 - s.cfgN 75) / 1000
    ∃ t, exec (.debounceExpiry 2) s = .next t ∧ t.disc[2].active = made ∧
      (if s.pto.state = .engaging ∧ made = true ∧ threshold ≤ s.pulse.pump.rate then
        t.pto = ptoEngaged ∧ t.ilk.mode = .pump ∧ t.road.creep = 0 ∧ t.pulse.flowCount = 0 ∧
          t.gov.state = .idle ∧ Reported .mode ⟨2, 0, 0⟩ t
      else if s.pto.state = .engaged ∧ made = false then
        t.pto = ptoFault .confirmLost ∧ t.out.lines[ptoSol].commanded = false ∧ t.gov.state = .off
      else if s.pto.stage = some .drop ∧ made = false then
        t.pto = ptoDisengaged none ∧ t.gov.state = .off
      else t.pto = s.pto)

/-- A pump stop (R23, R44, R68, R132): PUMP_STOP settling active with entry 0 CLEAR puts entry 0 in the list and
begins the stop hold. The lines take the stop-states set for them into use, and stand at them; a line in use KEEP
stands at its kept level, which is the level it had, off for FILL_VALVE while the class is FULL: for TANK_VALVE,
FILL_VALVE and RELIEF, and for every other line that no block commands in the event (of a THR_LIMIT in FAULT_OPEN,
which two commands of one event may leave in a retry, this is not said). FILL_VALVE is judged (R119)
without a progress window; the duty is 50; a primer run ends; the governor that runs is in IDLE; and the PTO
answers by its state: QUALIFY is abandoned, ENGAGING, ENGAGED and SPIN_DOWN go to DROP, and the rest stand. -/
def Obligations.PumpStopBeginsHold : Prop :=
  ∀ s : State, NoticesTaken s → PtoLaw s → ModeLaw s → QualifyLaw s →
    GovernorStateLaw s → s.disc[3].debounce ≠ none →
    s.disc[3].raw = .opened → s.ilk.entries[0].state = .clear →
    let after :=
      if s.pto.state = .qualify then ptoDisengaged (some .lockout)
      else if s.pto.state = .engaging ∨ s.pto.state = .engaged ∨ s.pto.stage = some .spinDown then
        ptoDropped s
      else s.pto
    ∃ t, exec (.debounceExpiry 3) s = .next t ∧
      t.ilk.entries[0] = ⟨.active, none, false⟩ ∧ (0 : Fin 32) ∈ t.ilk.active ∧
      t.pto = after ∧ t.out.hold = true ∧ t.gov.duty = 50 ∧ t.tank.priming = false ∧
      t.tank.fillWindow = none ∧
      (t.gov.state = if after.state = .releasing then .idle else .off) ∧
      (∀ n : Fin 10, t.out.lines[n].stopState = stopStateOf (s.cfg (210 + n.val)) ∧
        t.out.lines[n].effective =
          (!(n == fillValve && s.tank.water.cls == .full) && holdLevel t.out.lines[n]) ∧
        (t.out.lines[n].stopState ≠ .keep → t.out.lines[n].kept = none) ∧
        (t.out.lines[n].stopState = .keep →
          n = tankValveLine ∨ n = fillValve ∨ n = relief ∨
            LineLaw s ∧ DiagLaw s ∧ DriveLaw s ∧ s.ctl.startup = .running ∧ s.out.hold = false ∧
              t.out.lines[n].commanded = s.out.lines[n].commanded ∧
              (n = thrLimit → s.out.lines[n].diag ≠ .faultOpen) →
          t.out.lines[n].kept =
            some (s.out.lines[n].effective && !(n == fillValve && s.tank.water.cls == .full)))) ∧
      t.tank.fillMode = fillModeAfter s.tank.fillMode s ∧
      t.out.lines[fillValve].commanded = fillWanted s.tank.fillMode s

/-- A fault of O0 at its mismatch expiry (R69, R139): ENGAGING and ENGAGED become FAULT with reason
SOLENOID_FAULT, QUALIFY is abandoned with cause SOLENOID, SPIN_DOWN goes to DROP, and any other state stands;
each of these leaves PTO_SOL commanded off. -/
def Obligations.SolenoidFaultMovesPto : Prop :=
  ∀ s : State, NoticesTaken s → PtoLaw s → ModeLaw s → QualifyLaw s → StopTaken s → DiagLaw s →
    s.out.lines[ptoSol].diag = .ok → s.out.lines[ptoSol].mismatch ≠ none →
    let diag := if s.out.lines[ptoSol].effective then Diag.faultOpen else .faultStuckOn
    let after :=
      if s.pto.state = .engaging ∨ s.pto.state = .engaged then ptoFault .solenoidFault
      else if s.pto.state = .qualify then ptoDisengaged (some .solenoid)
      else if s.pto.stage = some .spinDown then ptoDropped s
      else s.pto
    ∃ t, exec (.mismatchTimerExpiry ptoSol) s = .next t ∧ Reacted s t ∧
      t.out.lines[ptoSol].diag = diag ∧ t.pto = after ∧
      (after ≠ s.pto → Reported .pto (ptoRecord after) t ∧ t.out.lines[ptoSol].commanded = false) ∧
      (s.ilk.mode = .pump ∨ s.ilk.mode = .roll →
        t.ilk.mode = if after.state = .engaged ∨ after.state = .releasing then s.ilk.mode
          else if s.disc[0].active then .parked else .road)

/-! ## Pressure governor (chapter 4) -/

/-- Set Governor, in the order of R78. Taken (R79), it makes the state the mode asked for and clears the
fallback flag; PRESSURE stores its setpoint clamped into 0 to Pmax, SPEED into Nidle to Nmax of the newest
accepted settings; D and the rest of the governor stand, and so do the duty, the interlock unit, the PTO and
the lines. The reply is CLAMPED where the clamp changed the setpoint, and carries the setpoint in force. -/
def Obligations.SetGovernorIsJudged : Prop :=
  ∀ (h : Header) (m : Byte) (v : Half) (s : State), Receives h s →
    let st := stationOf h.port h.origin
    let raised := m == 2 || m == 3
    let inForce :=
      if m = 2 then clampInt 0 (s.cfg 100) v.toInt
      else if m = 3 then clampInt (s.cfg 90) (s.cfg 91) v.toInt
      else 0
    let g := { s.gov with
      state := if m = 2 then .pressure else if m = 3 then .speed else .idle
      fallback := false
      ps := if m = 2 then inForce else s.gov.ps
      ns := if m = 3 then inForce else s.gov.ns }
    if m ≠ 1 ∧ raised = false then Refuses (.setGovernor h m v) h 40 .badValue s
    else if st = .service then Refuses (.setGovernor h m v) h 40 .notPermitted s
    else if raised = true ∧ s.auth.holder ≠ some st then Refuses (.setGovernor h m v) h 40 .noAuthority s
    else if s.gov.state = .off ∨ raised = true ∧ s.pto.state = .releasing ∨
        m = 2 ∧ s.analog.dis.valid = false then
      Refuses (.setGovernor h m v) h 40 .notPermitted s
    else
      ∃ t, exec (.setGovernor h m v) s = .next (answered h 40
          (if raised = true ∧ inForce ≠ v.toInt then .clamped else .ok) (halfBytes (fitInt inForce)) t) ∧
        Reacted (heard h s) t ∧ t.gov = g ∧ t.ilk = s.ilk ∧ t.pto = s.pto ∧ t.out = s.out ∧
        t.tank = s.tank ∧ t.auth = (heard h s).auth ∧
        Reported .governor ⟨m, fitInt inForce, byte (bit s.gov.cavitation + 2 * bit s.gov.overpressure
          + 8 * bit s.gov.capActive)⟩ t

/-- One update (R80 to R86): the newest settings come into use with Ns clamped to them (R74); Dmax is Nidle
under FORCE_IDLE, else in ROLL the smaller of Nmax and the roll cap, else Nmax (R81); cavitation is judged with
its hysteresis (R84) and overpressure in PRESSURE (R83); the step of the state (R82, R83) is braked by
cavitation (R84); D takes it within its bounds (R85) and gives the duty (R86). Nothing else moves but by one
GOVERNOR report where a flag changed, or where SPEED found Ns clamped. -/
def Obligations.GovernorUpdateMovesDemand : Prop :=
  ∀ s : State, DutyLaw s →
    if s.gov.state = .off then exec .updateTimerExpiry s = .next s
    else
      let w := s.shadow
      let d := s.gov.demand.getD 0
      let dis := s.analog.dis.value
      let ns := clampInt w.nidle w.nmax s.gov.ns
      let dmax :=
        if inForce s (·.forceIdle) then w.nidle
        else if s.ilk.mode = .roll then min w.nmax w.rollCap
        else w.nmax
      let cav := s.analog.int.valid &&
        decide (s.analog.int.value < if s.gov.cavitation then w.pcav + 20 else w.pcav)
      let overp := s.gov.state == .pressure && decide (s.gov.ps + w.pover < dis)
      let e := clampInt (-1000) 1000 (s.gov.ps - dis)
      let move :=
        if s.gov.state = .idle then -(min w.rdown (d - w.nidle))
        else if s.gov.state = .speed then clampInt (-w.rdown) w.rup (clampInt w.nidle dmax ns - d)
        else if overp then -w.rdown
        else if (e.natAbs : Int) ≤ w.deadband then 0
        else clampInt (-w.rdown) w.rup ((e * w.kg).tdiv 64)
      let braked := if cav && s.gov.state != .idle then min move (-w.rcav) else move
      let demand := clampInt w.nidle dmax (d + braked)
      let cap := decide (dmax < w.nmax)
      let g := { s.gov with
        demand := some demand, dmax := some dmax, ns := ns, cavitation := cav, overpressure := overp
        capActive := cap, updateTimer := some 50000, work := w
        duty := if s.out.hold then 50 else 100 + ((demand - 600) * 800).tdiv 2400 }
      let flags := byte (bit cav + 2 * bit overp + 4 * bit s.gov.fallback + 8 * bit cap)
      let setpoint := if s.gov.state = .pressure then s.gov.ps else if s.gov.state = .speed then ns else 0
      exec .updateTimerExpiry s = .next
        (if cap = s.gov.capActive ∧ cav = s.gov.cavitation ∧ overp = s.gov.overpressure ∧
            (ns = s.gov.ns ∨ s.gov.state ≠ .speed) then { s with gov := g }
        else post .governor ⟨byte s.gov.state.code, fitInt setpoint, flags⟩ { s with gov := g })

/-- At the end of a PWM period the next one begins with the newest duty, at the frequency index that stands in
the settings (R87), and is high for duty × period / 1000 µs. Nothing else moves. -/
def Obligations.PeriodEndBeginsNextPeriod : Prop :=
  ∀ s : State, s.cfgN 101 < 8 →
    let index := s.cfgN 101
    let period :=
      if index = 0 then 10000 else if index = 1 then 6666 else if index = 2 then 5000
      else if index = 3 then 4000 else if index = 4 then 3333 else if index = 5 then 2500
      else if index = 6 then 2000 else 1000
    exec .pwmPeriodEnd s = .next { s with pwm := ⟨index, s.gov.duty, some period⟩ } ∧
    Throttle.highTime ⟨index, s.gov.duty, some period⟩ = (s.gov.duty * (period : Int)).tdiv 1000

/-! ## Tank level, filling, priming and accounting (chapters 5 and 6) -/

/-- One level expiry at the probes (R93 to R98): outside supply-low each takes its reading, whose target is
FAULT at 255, WET at or above its threshold and DRY below it; a run of readings that disagree with the state, or
of any in an unjudged probe, moves it once the settle time in force is reached, and in FAULT the targets WET and
DRY count as one run. Each probe's volume stands for its height in a valid table (R102) and is absent in an
invalid one (R101; the model's reading, log entry 30), and the session total
is formed (R124). The Vrep that the expiry has formed is the latest level expiry's from now on. Entries 8 and 11
are judged on what it leaves (R35, R110, R115). Every measurement stands. -/
def Obligations.LevelExpiryJudgesProbes : Prop :=
  ∀ (r : Vector Byte 6) (s : State), NoticesTaken s → s.tank.levelTimer ≠ none →
    let required := [1, 2, 3, 5, 8, 10, 15, 20, 30, 40, 50, 60, 80, 100, 120, 150].getD
      (s.cfgN (if s.road.standstill then 124 else 125)) 150
    ∃ t, exec (.levelTimerExpiry r) s = .next t ∧
      Reacted { s with tank := { s.tank with
        levelTimer := some 100000, probes := t.tank.probes, water := t.tank.water, foam := t.tank.foam
        levelVrep := t.tank.water.vrep, sessionTotal := s.pulse.flowCount.toNat * 100 / s.cfgN 12 } } t ∧
      t.pto = s.pto ∧ t.ilk.mode = s.ilk.mode ∧
      (∀ n : Fin 32, n = 8 ∨ n = 11 →
        t.ilk.entries[n] = entryMoved s.ilk.entries[n] (effective t n) 0 false) ∧
      ∀ i : Fin 6,
        let p := s.tank.probes[i]
        let k := if i.val < 4 then TankId.water else .foam
        let volume :=
          if (s.tankOf k).tableValid then some (volumeAt (strapPoints s k) (s.cfg (118 + i.val))) else none
        let threshold := s.cfgN (if s.cfg (112 + i.val) = 0 then 110 else 111)
        let target := if r[i] = 255 then ProbeState.fault else if threshold ≤ r[i].toNat then .wet else .dry
        let run := if p.candidate = some target ∨ p.state = .fault ∧ p.candidate ≠ none then p.run + 1 else 1
        t.tank.probes[i] =
          if s.analog.supplyLow then { p with volume := volume }
          else if p.judged = true ∧ target = p.state then ⟨r[i], p.state, true, none, 0, volume⟩
          else if required ≤ run then ⟨r[i], target, true, none, 0, volume⟩
          else ⟨r[i], p.state, p.judged, some target, run, volume⟩

/-- One level expiry at a tank (R100 to R110), from the probes it has left: the liquid height, the filter, the
probe band and order, the status with the reported volume, the class with its hysteresis, and a TANK report
where the status, its reason or the class changed. -/
def Obligations.LevelExpiryJudgesTanks : Prop :=
  ∀ (k : TankId) (r : Vector Byte 6) (s : State), NoticesTaken s → SettingsLaw s → s.tank.levelTimer ≠ none →
    ∃ t, exec (.levelTimerExpiry r) s = .next t ∧
      let old := s.tankOf k
      let new := t.tankOf k
      let probes : List (Fin 6) := if k = .water then [0, 1, 2, 3] else [4, 5]
      let stands (i : Fin 6) (x : ProbeState) : Bool := t.tank.probes[i].judged && t.tank.probes[i].state == x
      let volume (i : Fin 6) : Int := t.tank.probes[i].volume.getD 0
      let head := if k = .water then s.analog.hwt else s.analog.hfm
      let raw := volumeAt (strapPoints s k)
        ((head.value * 1000).tdiv (if k = .water then 1000 else s.cfg 126))
      let diff := raw - old.vf.getD 0
      let step := diff.tdiv (2 ^ s.cfgN (if s.road.standstill then 127 else 128))
      let vf :=
        if old.tableValid = false ∨ head.valid = false then none
        else if old.vf = none ∨ old.reseed = true then some raw
        else some (old.vf.getD 0 +
          if step ≠ 0 then step else if 0 < diff then 1 else if diff < 0 then -1 else 0)
      let low := ((probes.filter (stands · .wet)).getLast?.map volume).getD (firstVolume s k)
      let high := ((probes.filter (stands · .dry)).head?.map volume).getD (lastVolume s k)
      let disorder := probes.any fun d => stands d .dry && probes.any fun w => stands w .wet && decide (d < w)
      let usable := probes.any fun i => stands i .dry || stands i .wet
      let judged : TankStatus × Option UnknownReason × Int :=
        if old.tableValid = false then (.unknown, some .table, old.vrep)
        else if vf = none ∧ (disorder = true ∨ usable = false) then (.unknown, some .sensors, old.vrep)
        else if vf = none then (.probesOnly, none, (low + high).tdiv 2)
        else if disorder = true ∨ low ≤ vf.getD 0 ∧ vf.getD 0 ≤ high then (.normal, none, vf.getD 0)
        else (.clamped, none, clampInt low high (vf.getD 0))
      let item := if k = .water then 130 else 133
      let lowAt := s.cfg item
      let reserveAt := s.cfg (item + 1)
      let hyst := s.cfg (item + 2)
      let direct :=
        if new.vrep < reserveAt then TankClass.reserve else if new.vrep < lowAt then .low else .normal
      new.vf = vf ∧ new.orderFault = (old.tableValid && disorder) ∧ new.tableValid = old.tableValid ∧
      (new.status, new.reason, new.vrep) = judged ∧
      new.clsJudged = (old.clsJudged || stands (if k = .water then 3 else 5) .wet ||
        new.status != .unknown) ∧
      new.cls =
        (if stands (if k = .water then 3 else 5) .wet then .full
        else if new.clsJudged = false then old.cls
        else if old.clsJudged = false ∨ old.cls = .full then direct
        else if new.status = .unknown then old.cls
        else if new.vrep < reserveAt then .reserve
        else if old.cls = .reserve then
          if lowAt + hyst ≤ new.vrep then .normal else if reserveAt + hyst ≤ new.vrep then .low else .reserve
        else if old.cls = .low then if lowAt + hyst ≤ new.vrep then .normal else .low
        else if new.vrep < lowAt then .low else .normal) ∧
      ((new.status, new.reason, new.cls) ≠ (old.status, old.reason, old.cls) →
        Reported (.tank k) ⟨byte new.status.code, fitInt new.vrep,
          byte (new.cls.code + 4 * bit (new.reason == some .table))⟩ t)

/-- The reconciliation window at a level expiry (R125, R126), on the Vrep and the session total that this expiry
has formed (the model's reading, log entry 19): it is open afterwards exactly while its five conditions hold,
and starts afresh where it was closed, where the total fell, and where the counted growth has reached the
reconciliation volume; that close raises a FLOW_CHECK report where mismatch × 100 is greater than tolerance ×
growth, and no other case raises one. -/
def Obligations.FlowCheckClosesWindow : Prop :=
  ∀ (r : Vector Byte 6) (s : State), NoticesTaken s → s.tank.levelTimer ≠ none → 0 < s.cfgN 207 →
    ∃ t, exec (.levelTimerExpiry r) s = .next t ∧
      let total := s.pulse.flowCount.toNat * 100 / s.cfgN 12
      let holds := t.pto.state == .engaged && t.out.lines[tankValveLine].commanded &&
        !t.out.lines[fillValve].commanded && !t.tank.external && t.tank.water.status != .unknown
      let w := s.tank.recon.getD ⟨0, 0⟩
      let delta := total - w.startTotal
      let closes := holds && s.tank.recon.isSome && decide (w.startTotal ≤ total) &&
        decide (s.cfgN 207 ≤ delta)
      let mismatch := (w.startVrep - t.tank.water.vrep - (delta : Int)).natAbs
      let fails := closes && decide (s.cfgN 208 * delta < mismatch * 100)
      t.tank.recon =
        (if holds = false then none
        else if s.tank.recon = none ∨ total < w.startTotal ∨ closes = true then
          some ⟨t.tank.water.vrep, total⟩
        else some w) ∧
      (fails = true → Reported .flowCheck
        ⟨hiByte (fitHalf delta), fitHalf mismatch, loByte (fitHalf delta)⟩ t) ∧
      (fails = false → ∀ p : Port,
        (t.port p).queue.filter (·.key == .flowCheck) = (s.port p).queue.filter (·.key == .flowCheck))

/-- Tank Valve, in the order of R114: CLOSE is taken from either operator station, OPEN from the holder while
no primer runs. The command takes the level asked for; a level already held changes nothing (R114); of the
other lines only the interlock unit's may answer, through entry 8 (R115). The reconciliation window is judged: a
valve that opens with its other conditions holding opens one, from the Vrep and the session total of the latest
level expiry, and one that closes abandons it (R125). -/
def Obligations.TankValveIsJudged : Prop :=
  ∀ (h : Header) (p : Byte) (s : State), Receives h s →
    let st := stationOf h.port h.origin
    if p ≠ 0 ∧ p ≠ 1 then Refuses (.tankValve h p) h 56 .badValue s
    else if st = .service then Refuses (.tankValve h p) h 56 .notPermitted s
    else if p = 1 ∧ s.auth.holder ≠ some st then Refuses (.tankValve h p) h 56 .noAuthority s
    else if p = 1 ∧ s.tank.priming = true then Refuses (.tankValve h p) h 56 .notPermitted s
    else if s.out.lines[tankValveLine].commanded = (p == 1) then Refuses (.tankValve h p) h 56 .ok s
    else
      ∃ t, exec (.tankValve h p) s = .next (answered h 56 .ok [] t) ∧
        Reacted (heard h s) t ∧ t.out.lines[tankValveLine].commanded = (p == 1) ∧
        t.ilk.mode = s.ilk.mode ∧ t.pto = s.pto ∧
        (∀ m : Fin 10, m ≠ driveEn → m ≠ thrLimit → m ≠ tankValveLine → m ≠ alarmLine →
          t.out.lines[m] = s.out.lines[m]) ∧
        (∀ n : Fin 32, n ≠ 8 → t.ilk.entries[n] = s.ilk.entries[n]) ∧
        t.tank.recon =
          (if p = 1 ∧ s.pto.state = .engaged ∧ s.out.lines[fillValve].commanded = false ∧
              s.tank.external = false ∧ s.tank.water.status ≠ .unknown then
            some (s.tank.recon.getD ⟨s.tank.levelVrep, s.tank.sessionTotal⟩)
          else none) ∧
        (p = 1 → (s.ilk.mode = .pump ∨ s.ilk.mode = .roll) → s.tank.water.cls = .reserve →
          s.tank.external = false → s.ilk.entries[8].state = .clear →
          EntryStands 8 ⟨.active, none, false⟩ (s.ilk.active ++ [8]) t ∧
          (s.gov.state ≠ .off → t.gov.state = .idle)) ∧
        (p = 0 → s.ilk.entries[8].state = .active →
          EntryStands 8 ⟨.clear, none, false⟩ (s.ilk.active.filter (· != 8)) t)

/-- Foam Pump, in the order of R116: OFF is taken from either operator station, ON from the holder in ENGAGED
with the foam class out of RESERVE. O8 alone answers. -/
def Obligations.FoamPumpIsJudged : Prop :=
  ∀ (h : Header) (p : Byte) (s : State), Receives h s →
    let st := stationOf h.port h.origin
    if p ≠ 0 ∧ p ≠ 1 then Refuses (.foamPump h p) h 57 .badValue s
    else if st = .service then Refuses (.foamPump h p) h 57 .notPermitted s
    else if p = 1 ∧ s.auth.holder ≠ some st then Refuses (.foamPump h p) h 57 .noAuthority s
    else if s.out.lines[foamEn].commanded = (p == 1) then Refuses (.foamPump h p) h 57 .ok s
    else if p = 1 ∧ (s.pto.state ≠ .engaged ∨ s.tank.foam.cls = .reserve) then
      Refuses (.foamPump h p) h 57 .notPermitted s
    else
      ∃ t, exec (.foamPump h p) s = .next (answered h 57 .ok [] t) ∧
        Reacted (heard h s) t ∧ t.out.lines[foamEn].commanded = (p == 1) ∧ t.out.hold = s.out.hold ∧
        (∀ m : Fin 10, m ≠ foamEn → t.out.lines[m] = s.out.lines[m]) ∧
        t.ilk = s.ilk ∧ t.pto = s.pto ∧ t.gov = s.gov ∧ t.tank = s.tank ∧ t.links = (heard h s).links

/-- Set Fill Mode, as R118 and R119 judge it, and the window expiry that ends a fill (R120, R121). Taken, it
ends the fill fault, judges the valve on the new mode and the latest published Vrep, which a table write may have
moved since its level expiry (R106), and raises a FILL report; where the valve stands open outside a stop hold a
progress window starts afresh, from the present Vrep for one that stays open (R118) and from the latest level
expiry's for one that opens (R120; the model's reading of the two, log entry 38). A level expiry judges the valve
on the Vrep and the class it has formed (R119), and a window whose rise they have reached starts again (R120); a
sample expiry judges it where external supply has changed (R113), on the Vrep of the latest level expiry. At the
window expiry the valve is commanded closed, the mode is OFF, and the
fill fault brings entry 15 to ACTIVE. -/
def Obligations.FillIsSetAndFails : Prop :=
  (∀ (h : Header) (p : Byte) (s : State), Receives h s →
    let st := stationOf h.port h.origin
    if 3 ≤ p.toNat then Refuses (.setFillMode h p) h 58 .badValue s
    else if st = .service then Refuses (.setFillMode h p) h 58 .notPermitted s
    else if s.auth.holder ≠ some st then Refuses (.setFillMode h p) h 58 .noAuthority s
    else
      let full := s.tank.water.cls == .full
      let valve :=
        if full then false
        else if p = 0 then false
        else if p = 1 then true
        else if s.out.lines[fillValve].commanded then
          decide (s.tank.water.vrep < s.cfg 202) && s.tank.external
        else decide (s.tank.water.vrep ≤ s.cfg 201) && s.tank.external
      let mode := if p = 0 ∨ p = 1 ∧ full = true then FillMode.off else if p = 1 then .manual else .auto
      ∃ t, exec (.setFillMode h p) s = .next (answered h 58 .ok [] t) ∧
        Reacted { heard h s with tank := { s.tank with fillFault := false } } t ∧
        t.ilk.mode = s.ilk.mode ∧ t.pto = s.pto ∧ t.gov.state = s.gov.state ∧ t.out.hold = s.out.hold ∧
        t.tank.fillMode = mode ∧ t.out.lines[fillValve].commanded = valve ∧
        t.tank.fillWindow =
          (if valve = true ∧ s.out.hold = false then
            some ⟨if s.out.lines[fillValve].commanded then s.tank.water.vrep else s.tank.levelVrep,
              ms (1000 * s.cfgN 204)⟩
          else none) ∧
        Reported .fill ⟨byte mode.code, 0, byte (bit valve)⟩ t ∧
        (s.ilk.entries[15].state = .active → t.ilk.entries[15].state = .held)) ∧
  (∀ s : State, NoticesTaken s →
    if s.tank.fillWindow = none then exec .progressWindowExpiry s = .next s
    else
      ∃ t, exec .progressWindowExpiry s = .next t ∧
        Reacted { s with tank := { s.tank with fillFault := true } } t ∧
        t.ilk.mode = s.ilk.mode ∧ t.pto = s.pto ∧ t.out.hold = s.out.hold ∧
        t.tank.fillMode = .off ∧ t.tank.fillWindow = none ∧ t.out.lines[fillValve].commanded = false ∧
        Reported .fill ⟨0, 0, 2⟩ t ∧
        t.ilk.entries[15].state = (if s.ilk.entries[15].state = .pending then .pending else .active) ∧
        (s.ilk.entries[15].state = .clear → t.ilk.active = s.ilk.active ++ [15])) ∧
  (∀ (r : Vector Byte 6) (s : State), NoticesTaken s → s.tank.levelTimer ≠ none →
    ∃ t, exec (.levelTimerExpiry r) s = .next t ∧ t.out.hold = s.out.hold ∧
      let u := { s with tank := t.tank }
      FillJudged s u (s.tank.fillWindow.map fun w =>
        if w.start + s.cfg 203 ≤ t.tank.water.vrep then windowFrom u else w) t) ∧
  (∀ (c : Counts) (s : State), NoticesTaken s → s.analog.sampleTimer ≠ none →
    ∃ t, exec (.sampleTimerExpiry c) s = .next t ∧ t.out.hold = s.out.hold ∧
      if t.tank.external = s.tank.external then
        t.out.lines[fillValve].commanded = s.out.lines[fillValve].commanded ∧
          t.tank.fillMode = s.tank.fillMode ∧ t.tank.fillWindow = s.tank.fillWindow
      else FillJudged s { s with tank := { s.tank with external := t.tank.external } } s.tank.fillWindow t)

/-- A primer run (R122, R123): Primer Start, in the order of R122, begins it with the run timer at the primer
time and the prime timer running where DIS stands at the prime pressure; Primer Stop from either operator
station, the prime timer and the run timer end it STOPPED, PRIMED and TIMEOUT. O6 alone answers. -/
def Obligations.PrimerRunsAndEnds : Prop :=
  ∀ (h : Header) (s : State), Receives h s →
    let st := stationOf h.port h.origin
    (if st = .service then Refuses (.primerStart h) h 59 .notPermitted s
    else if s.auth.holder ≠ some st then Refuses (.primerStart h) h 59 .noAuthority s
    else if s.tank.priming = true then Refuses (.primerStart h) h 59 .ok s
    else if s.pto.state ≠ .engaged ∨ s.out.lines[tankValveLine].commanded = true ∨ s.out.hold = true then
      Refuses (.primerStart h) h 59 .notPermitted s
    else
      ∃ t, exec (.primerStart h) s = .next (answered h 59 .ok [] t) ∧
        PrimerMoves { heard h s with tank := { s.tank with
          priming := true, outcome := .none, runTimer := some (s.cfgN 206 * 1000000)
          primeTimer := if s.analog.dis.valid && decide (s.cfg 205 ≤ s.analog.dis.value) then some 1000000
            else none } } t) ∧
    (if st = .service then Refuses (.primerStop h) h 60 .notPermitted s
    else if s.tank.priming = false then Refuses (.primerStop h) h 60 .ok s
    else
      ∃ t, exec (.primerStop h) s = .next (answered h 60 .ok [] t) ∧
        PrimerMoves (primerEnded .stopped (heard h s)) t) ∧
    (s.tank.priming = true →
      (if s.tank.primeTimer = none then exec .primeTimerExpiry s = .next s
      else ∃ t, exec .primeTimerExpiry s = .next t ∧ PrimerMoves (primerEnded .primed s) t) ∧
      (if s.tank.runTimer = none then exec .runTimerExpiry s = .next s
      else ∃ t, exec .runTimerExpiry s = .next t ∧ PrimerMoves (primerEnded .timeout s) t))

/-! ## Output lines (chapter 7) -/

/-- A readback change and a blank expiry (R135, R136, R138), of which a level that does not change is none (the
model's reading, log entry 27): outside supply-low a line in OK starts its mismatch timer where the readback
disagrees with the effective level and stops it where it agrees, and in a retry's ON_PHASE whose blank has ended
every change starts the timer; the blank's end judges the readback as it stands, and times it in an ON_PHASE. At
a retry expiry the OFF_PHASE gives way to the ON_PHASE, the line goes on as it is commanded, and a blank starts.
Under supply-low neither expiry does anything, for a retry begun under it too (the model's reading, log entry
25). Nothing else moves. -/
def Obligations.ReadbackAndRetryAreTimed : Prop :=
  (∀ (n : Fin 10) (level : Bool) (s : State), s.ctl.startup = .running →
    let l := s.out.lines[n]
    let judged := !s.analog.supplyLow && s.cfg (220 + n.val) == 1
    let put (x : OutputLine) : State := { s with out := { s.out with lines := s.out.lines.set n x } }
    exec (.readbackChange n level) s = .next
      (if l.readback = level then s
      else if judged = true ∧ l.diag = .ok then
        put { l with readback := level, mismatch := if level = l.effective then none else some 100000 }
      else if judged = true ∧ l.diag = .faultOpen ∧ l.retryPhase = some .onPhase ∧ l.blank = none then
        put { l with readback := level, mismatch := some 100000 }
      else put { l with readback := level }) ∧
    exec (.blankTimerExpiry n) s = .next
      (if l.blank = none ∨ s.analog.supplyLow = true then s
      else if l.diag = .blank then
        put { l with diag := .ok, blank := none
                     mismatch := if l.readback = l.effective then none else some 100000 }
      else put { l with blank := none, mismatch := some 100000 })) ∧
  (∀ (n : Fin 10) (s : State), DiagLaw s →
    let l := s.out.lines[n]
    exec (.retryTimerExpiry n) s = .next
      (if l.retry = none ∨ s.analog.supplyLow = true then s
      else { s with out := { s.out with lines := s.out.lines.set n { l with
        retryPhase := some .onPhase, retry := none
        effective := !(n == fillValve && s.tank.water.cls == .full) && l.commanded
        blank := some (ms ([10, 20, 50, 100, 200, 500, 1000, 2000].getD (s.cfgN (230 + n.val)) 100)) } } }))

/-- A mismatch expiry (R135, R136, R139). Outside a retry the line goes to FAULT_OPEN where it is on and to
FAULT_STUCK_ON where it is off; in FAULT_OPEN, commanded on, outside a stop hold and below three retries, a
retry begins with the line off for 1000 ms, after the report, which carries the count and the levels that stand
before it (the model's choice, log entry 13). In an ON_PHASE a good readback ends the retry and the fault; a bad
one ends the retry, and the next begins below three. Each change into or out of fault raises an OUTPUT report
and re-judges entry 12, whose join may command the alarm on, O7 itself included. O0 has its own statement,
SolenoidFaultMovesPto. -/
def Obligations.MismatchMakesAndEndsFaults : Prop :=
  ∀ (n : Fin 10) (s : State), NoticesTaken s → DiagLaw s → LineLaw s → AlarmLaw s → LimitLaw s → DriveLaw s →
    s.ctl.startup = .running → n ≠ ptoSol →
    let l := s.out.lines[n]
    let again := l.commanded && !s.out.hold && decide (l.retryCount < 3)
    let levels := byte (bit l.commanded + 2 * bit l.effective)
    if l.mismatch = none then exec (.mismatchTimerExpiry n) s = .next s
    else
      ∃ t, exec (.mismatchTimerExpiry n) s = .next t ∧ Reacted s t ∧ t.pto = s.pto ∧
        t.ilk.mode = s.ilk.mode ∧ t.out.hold = s.out.hold ∧
        (n ≠ alarmLine → t.out.lines[n].commanded = l.commanded) ∧
        (if l.retryPhase = none then
          (if l.effective then
            t.out.lines[n] = (if again then { l with
                diag := .faultOpen, mismatch := none, effective := false, retryCount := l.retryCount + 1
                retryPhase := some .offPhase, retry := some 1000000 }
              else { l with
                diag := .faultOpen, mismatch := none, commanded := t.out.lines[n].commanded }) ∧
            Reported (.output n) ⟨2, fitHalf l.retryCount, levels⟩ t
          else
            t.out.lines[n].diag = .faultStuckOn ∧ t.out.lines[n].mismatch = none ∧
            Reported (.output n) ⟨3, fitHalf l.retryCount, levels⟩ t) ∧
          (s.ilk.entries[12].state ≠ .pending → t.ilk.entries[12].state = .active)
        else if l.readback then
          t.out.lines[n] = { l with
            diag := .ok, mismatch := none, retryPhase := none, retry := none, blank := none, retryCount := 0 } ∧
          Reported (.output n) ⟨0, 0, levels⟩ t ∧
          (s.ilk.entries[12].state = .active → t.ilk.entries[12].state =
            if ∃ m : Fin 10, m ≠ n ∧ s.out.lines[m].diag.faulty = true then .active else .held)
        else
          t.out.lines[n] = (if again then { l with
              mismatch := none, blank := none, effective := false, retryCount := l.retryCount + 1
              retryPhase := some .offPhase, retry := some 1000000 }
            else { l with mismatch := none, blank := none, retryPhase := none, retry := none }))

/-- Clear Output Faults (R137): each line in fault has its retry ended and its count at 0, goes to the level
that R129 gives it (a KEEP line of a stop hold that has no kept level stays as it is, log entry 29) and to BLANK
with its blank timer running, and raises an OUTPUT report; the other lines stand; entry 12 loses its source; and
the reply carries how many lines were cleared. -/
def Obligations.ClearOutputFaultsClears : Prop :=
  ∀ (h : Header) (s : State), Receives h s → DiagLaw s →
    let faulty := (allLines.filter fun n => s.out.lines[n].diag.faulty).length
    ∃ t, exec (.clearOutputFaults h) s = .next (answered h 66 .ok [byte faulty] t) ∧
      Reacted (heard h s) t ∧ t.ilk.mode = s.ilk.mode ∧ t.pto = s.pto ∧ t.gov = s.gov ∧
      t.tank = s.tank ∧ t.out.hold = s.out.hold ∧
      (∀ n : Fin 10,
        if s.out.lines[n].diag.faulty then
          t.out.lines[n] = { s.out.lines[n] with
            diag := .blank, retryCount := 0, retryPhase := none, retry := none, mismatch := none
            blank := some (ms ([10, 20, 50, 100, 200, 500, 1000, 2000].getD (s.cfgN (230 + n.val)) 100))
            effective := !(n == fillValve && s.tank.water.cls == .full) &&
              if s.out.hold then
                match s.out.lines[n].stopState with
                | .off => false
                | .on => true
                | .keep => s.out.lines[n].kept.getD s.out.lines[n].effective
              else s.out.lines[n].commanded } ∧
          Reported (.output n) ⟨1, 0, byte (bit t.out.lines[n].commanded
            + 2 * bit t.out.lines[n].effective)⟩ t
        else t.out.lines[n] = s.out.lines[n]) ∧
      t.ilk.active = s.ilk.active ∧
      (s.ilk.entries[12].state = .active → t.ilk.entries[12].state = .held)

/-! ## Pump authority (chapter 8) -/

/-- Take Authority, case by case (R142): SERVICE only in DISENGAGED; the holder and the claimant ask in vain; a
part that none holds is granted, which ends the lapsed condition; a claim stands where none does. A grant and a
claim each raise an AUTHORITY report, and leave every other block as it was but for entry 14, whose source is
the lapsed condition. -/
def Obligations.TakeAuthorityIsJudged : Prop :=
  ∀ (h : Header) (s : State), Receives h s → AuthorityLaw s →
    let st := stationOf h.port h.origin
    let port := if st = .service then some h.port else s.auth.servicePort
    if st = .service ∧ s.pto.state ≠ .disengaged then Refuses (.takeAuthority h) h 16 .notPermitted s
    else if s.auth.holder = some st then Refuses (.takeAuthority h) h 16 .ok s
    else if s.auth.holder = none then
      ∃ t, exec (.takeAuthority h) s = .next (answered h 16 .ok [] t) ∧
        t.auth = ⟨some st, none, port, some (ms (s.cfgN 240)), false⟩ ∧
        Reacted { heard h s with auth := t.auth } t ∧ Reported .authority ⟨byte (stationCode (some st)), 0, 0⟩ t ∧
        t.ilk.mode = s.ilk.mode ∧ t.pto = s.pto ∧ t.gov = s.gov ∧ t.tank = s.tank ∧ t.out = s.out ∧
        (s.auth.lapsed = false → t.ilk = s.ilk) ∧
        (s.auth.lapsed = true → s.ilk.entries[14].state = .active → t.ilk.entries[14].state = .held)
    else if s.auth.claimant = some st then Refuses (.takeAuthority h) h 16 .pending s
    else if s.auth.claimant ≠ none then Refuses (.takeAuthority h) h 16 .busy s
    else
      exec (.takeAuthority h) s = .next (answered h 16 .pending []
        (post .authority ⟨byte (stationCode s.auth.holder), fitHalf (stationCode (some st)),
            byte (bit s.auth.lapsed)⟩
          { heard h s with auth := { s.auth with claimant := some st, servicePort := port } }))

/-- Yield Authority (R143): from the holder it hands authority to the claimant, with a fresh silence timer, or
to none; a SERVICE claimant is handed it only in DISENGAGED, and loses its claim otherwise. From the claimant
it withdraws the claim. From any other station it changes nothing. -/
def Obligations.YieldAuthorityPassesOn : Prop :=
  ∀ (h : Header) (s : State), Receives h s → AuthorityLaw s →
    let st := stationOf h.port h.origin
    let after : Authority :=
      if s.auth.holder = some st then
        if s.auth.claimant = none ∨ s.auth.claimant = some .service ∧ s.pto.state ≠ .disengaged then
          ⟨none, none, none, none, s.auth.lapsed⟩
        else ⟨s.auth.claimant, none,
          if s.auth.claimant = some .service then s.auth.servicePort else none, some (ms (s.cfgN 240)),
          s.auth.lapsed⟩
      else { s.auth with
        claimant := none
        servicePort := if s.auth.claimant = some .service then none else s.auth.servicePort }
    if s.auth.holder = some st ∨ s.auth.claimant = some st then
      exec (.yieldAuthority h) s = .next (answered h 17 .ok []
        (post .authority ⟨byte (stationCode after.holder), fitHalf (stationCode after.claimant),
          byte (bit after.lapsed)⟩ { heard h s with auth := after }))
    else Refuses (.yieldAuthority h) h 17 .ok s

/-- A silence expiry (R145): the holder lapses, authority passes to the claimant, who must show itself alive, or
to none, the lapsed condition and an AUTHORITY report stand, and in PUMP and ROLL entry 14 joins; the mode, the
PTO, the setpoints and the valves stand. The first frame from a holder that stands lapsed, whatever its request,
ends the condition, with an AUTHORITY report, and takes the source from entry 14 (R35), before the request is
judged: from there on the request is one that the statements of the requests are about. That the AUTHORITY report
stands before entry 14's LOCKOUT report is the model's choice (log entry 5). -/
def Obligations.SilenceLapsesTheHolder : Prop :=
  (∀ s : State, NoticesTaken s → AuthorityLaw s →
    if s.auth.silence = none then exec .silenceTimerExpiry s = .next s
    else
      let after : Authority :=
        if s.auth.claimant = none ∨ s.auth.claimant = some .service ∧ s.pto.state ≠ .disengaged then
          ⟨none, none, none, none, true⟩
        else ⟨s.auth.claimant, none,
          if s.auth.claimant = some .service then s.auth.servicePort else none, some (ms (s.cfgN 240)), true⟩
      ∃ t, exec .silenceTimerExpiry s = .next t ∧
        t.auth = after ∧ Reacted { s with auth := after } t ∧
        Reported .authority ⟨byte (stationCode after.holder), 0, 1⟩ t ∧
        t.ilk.mode = s.ilk.mode ∧ t.pto = s.pto ∧ t.tank = s.tank ∧ t.gov.state = s.gov.state ∧
        t.gov.ps = s.gov.ps ∧ t.gov.ns = s.gov.ns ∧ t.out.hold = s.out.hold ∧
        (∀ m : Fin 10, m ≠ driveEn → m ≠ thrLimit → m ≠ alarmLine → t.out.lines[m] = s.out.lines[m]) ∧
        (s.ilk.mode = .pump ∨ s.ilk.mode = .roll → s.ilk.entries[14].state = .clear →
          EntryStands 14 ⟨.active, none, false⟩ (s.ilk.active ++ [14]) t)) ∧
  (∀ (c : Instr) (h : Header) (kind : Nat) (payload : List Byte) (s : State),
    wireOf c = some (h, kind, payload) →
    (s.port h.port).listening = true → (s.port h.port).transmitting = false →
    NoticesTaken s → s.auth.holder = some (stationOf h.port h.origin) → s.auth.lapsed = true →
    let v := post .authority
      ⟨byte (stationCode s.auth.holder), fitHalf (stationCode s.auth.claimant), 0⟩
      { heard h s with auth := { s.auth with silence := some (ms (s.cfgN 240)), lapsed := false } }
    let e := s.ilk.entries[14]
    let w := v.modEntry 14 fun _ => entryMoved e false 0 true
    let u := if e.state = .active then post (.lockout 14) ⟨3, 0, byte (bit e.silenced)⟩ w else w
    exec c s = exec c u ∧ Receives h u ∧ ∃ t, exec c u = .next t)

/-! ## Links, frames and reports (chapters 9 and 10) -/

/-- A port's own events (R149 to R154, R157). A port that does not listen, or transmits, takes no character. A
marked character discards an unsent reply and any partial frame, and begins a frame where it names the node or
31; an unmarked one joins a partial frame, whose length outside 2 to 24 ends it, as a framing error and three
silent character times do, in whole microseconds, truncated (the model's choice, log entry 21). A reply begins
on a port that listens, and at its completion the entries it still carries leave the queue, with the attention
line. Nothing else moves. -/
def Obligations.PortTakesItsEvents : Prop :=
  ∀ (p : Port) (data : Byte) (mark framing : Bool) (s : State),
    let r := s.port p
    let put (x : PortRecord) : State := s.modPort p fun _ => x
    let gap := 33000000 / (if r.rateIndex = 0 then 19200 else if r.rateIndex = 1 then 38400
      else if r.rateIndex = 2 then 57600 else 115200)
    let fresh := { r with
      frame := none, gap := none, reply := none
      queue := if r.reply = none then r.queue else r.queue.map fun e => { e with carried := false } }
    let g := r.frame.getD [] ++ [data]
    let extent := (g.getD 1 0).toNat
    let kept := r.queue.filter fun e =>
      !(e.carried && ((r.reply.map (·.carries)).getD []).contains e.key)
    r.rateIndex < 4 →
    (r.listening = false ∨ r.transmitting = true →
      exec (.characterReceive p data mark framing) s = .next s) ∧
    (r.listening = true → r.transmitting = false → mark = true → framing = false →
      exec (.characterReceive p data mark framing) s = .next (put
        (if data = r.node ∨ data = 31 then { fresh with frame := some [data], gap := some gap } else fresh))) ∧
    (r.listening = true → r.transmitting = false → mark = false ∨ framing = true →
      (r.frame = none → exec (.characterReceive p data mark framing) s = .next s) ∧
      (r.frame ≠ none → framing = true ∨ 2 ≤ g.length ∧ (extent < 2 ∨ 24 < extent) →
        exec (.characterReceive p data mark framing) s =
          .next (put { r with frame := none, gap := none })) ∧
      (r.frame ≠ none → framing = false → g.length < 2 ∨ 2 ≤ extent ∧ extent ≤ 24 ∧ g.length ≠ extent + 4 →
        exec (.characterReceive p data mark framing) s =
          .next (put { r with frame := some g, gap := some gap })) ∧
      (r.frame ≠ none → framing = false → 2 ≤ extent → extent ≤ 24 → g.length = extent + 4 →
        ofBytes (g.getD (extent + 2) 0) (g.getD (extent + 3) 0) ≠ crc16 ((g.take (extent + 2)).drop 1) →
        exec (.characterReceive p data mark framing) s =
          .next (put { r with frame := none, gap := none }))) ∧
    exec (.gapTimerExpiry p) s =
      .next (if r.gap = none then s else put { r with frame := none, gap := none }) ∧
    exec (.replyTransmitStart p) s =
      .next (if r.reply ≠ none ∧ r.listening = true ∧ r.transmitting = false then
          put { r with transmitting := true, txEnable := true }
        else s) ∧
    exec (.replyComplete p) s =
      .next (if r.transmitting = true then
          put { r with
            frame := none, gap := none, reply := none, transmitting := false, txEnable := false
            queue := kept, attention := !kept.isEmpty }
        else s)

/-- A request and its frame are one event (the model's choice, log entry 7). The frame of every request of table
10.3, with every operand at every value, decodes to that request: the
last character of the frame, on a port that holds the rest of it, does what the request does (R152, R159 to
R161). A good frame whose kind the table does not name, or whose payload count is not its kind's, is answered
UNKNOWN_KIND or BAD_LENGTH and reaches no owner (R161). A port that does not listen, or transmits, takes no
request (R149, R153). -/
def Obligations.FrameDecodesToItsRequest : Prop :=
  (∀ (c : Instr) (h : Header) (kind : Nat) (payload : List Byte) (s : State),
    wireOf c = some (h, kind, payload) →
    let chars := requestFrame (s.port h.port).node h kind payload
    (s.port h.port).listening = true → (s.port h.port).transmitting = false →
    (s.port h.port).reply = none → (s.port h.port).node ≠ 31 →
    (s.port h.port).frame = some chars.dropLast →
    exec (.characterReceive h.port (chars.getLastD 0) false false) s = exec c s) ∧
  (∀ (h : Header) (kind : Byte) (payload : List Byte) (s : State), Receives h s →
    let chars := requestFrame (s.port h.port).node h kind.toNat payload
    let counts : List (Nat × Nat) := [(1, 0), (2, 1), (3, 0), (4, 1), (5, 2), (6, 0), (16, 0), (17, 0), (32, 0),
      (33, 0), (34, 0), (40, 3), (48, 0), (49, 0), (56, 1), (57, 1), (58, 1), (59, 0), (60, 0), (64, 1),
      (65, 0), (66, 0), (80, 4), (81, 0), (96, 0)]
    payload.length ≤ 22 → (s.port h.port).reply = none → (s.port h.port).node ≠ 31 →
    (s.port h.port).frame = some chars.dropLast →
    (counts.lookup kind.toNat = none →
      exec (.characterReceive h.port (chars.getLastD 0) false false) s =
        .next (answered h kind.toNat .unknownKind [] (heard h s))) ∧
    (counts.lookup kind.toNat ≠ none → counts.lookup kind.toNat ≠ some payload.length →
      exec (.characterReceive h.port (chars.getLastD 0) false false) s =
        .next (answered h kind.toNat .badLength [] (heard h s)))) ∧
  (∀ (c : Instr) (h : Header) (kind : Nat) (payload : List Byte) (s : State),
    wireOf c = some (h, kind, payload) →
    (s.port h.port).listening = false ∨ (s.port h.port).transmitting = true → exec c s = .next s)

/-- Read Status and Read Measurements (R163, R164), in every state: the reply carries what the owners hold, laid
out as the tables give it; the Vrep of group 2 is the latest published, which a table write may have moved since
its level expiry (the model's reading of R106, R111 and R164, log entry 39); a group past 3 is refused; a
broadcast is heard and has no reply (R155). Nothing else moves. -/
def Obligations.StatusAndMeasurementsAreRead : Prop :=
  ∀ (h : Header) (group : Byte) (s : State), Receives h s →
    let a := s.analog
    let m := s.tank
    let setpoint := if s.gov.state = .pressure then s.gov.ps else if s.gov.state = .speed then s.gov.ns else 0
    let probe (i : Fin 6) : Nat := m.probes[i].state.code + 4 * bit m.probes[i].judged
    let line (n : Fin 10) : Nat := bit s.out.lines[n].commanded + 2 * bit s.out.lines[n].effective
      + 4 * s.out.lines[n].diag.code
    let tank (k : Tank) : Nat := k.status.code + 4 * bit (k.reason == some .table) + 8 * k.cls.code
    exec (.readStatus h) s = .next (answered h 1 .ok
      ([byte s.ilk.mode.code, byte s.pto.state.code, byte (stageCode s.pto.stage),
        byte (reasonCode s.pto.reason), byte (abandonCode s.pto.abandon), byte s.gov.state.code,
        byte (bit s.gov.cavitation + 2 * bit s.gov.overpressure + 4 * bit s.gov.fallback
          + 8 * bit s.gov.capActive)]
        ++ halfBytes (fitInt setpoint) ++ halfBytes (fitInt (s.gov.demand.getD 0))
        ++ [byte (stationCode s.auth.holder), byte (stationCode s.auth.claimant), byte (bit s.auth.lapsed),
          byte s.ilk.active.length]) (heard h s)) ∧
    (group = 0 → exec (.readMeasurements h group) s = .next (answered h 2 .ok
      (halfBytes (fitHalf s.pulse.eng.rate) ++ halfBytes (fitHalf s.pulse.pump.rate)
        ++ halfBytes (fitHalf s.pulse.flow.rate) ++ halfBytes (fitInt s.road.speed)
        ++ [byte (bit s.road.standstill)]) (heard h s))) ∧
    (group = 1 → exec (.readMeasurements h group) s = .next (answered h 2 .ok
      (halfBytes (fitInt a.dis.value) ++ halfBytes (fitInt a.int.value) ++ halfBytes (fitInt a.cas.value)
        ++ halfBytes (fitInt a.sup.value)
        ++ [byte (bit a.dis.valid + 2 * bit a.int.valid + 4 * bit a.hwt.valid + 8 * bit a.hfm.valid
          + 16 * bit a.cas.valid + 32 * bit a.supplyLow)]) (heard h s))) ∧
    (group = 2 → exec (.readMeasurements h group) s = .next (answered h 2 .ok
      ([byte (tank m.water + 32 * bit m.external + 64 * bit m.fillFault), byte (tank m.foam)]
        ++ halfBytes (fitInt m.water.vrep) ++ halfBytes (fitInt (m.water.vf.getD 0))
        ++ halfBytes (fitInt m.foam.vrep) ++ halfBytes (fitInt (m.foam.vf.getD 0))
        ++ [byte (probe 0 + 16 * probe 1), byte (probe 2 + 16 * probe 3), byte (probe 4 + 16 * probe 5),
          m.probes[0].reading, m.probes[1].reading, m.probes[2].reading, m.probes[3].reading,
          m.probes[4].reading, m.probes[5].reading,
          byte (bit s.out.lines[3].commanded + 2 * bit s.out.lines[8].commanded
            + 4 * bit s.out.lines[4].commanded + 8 * m.fillMode.code + 32 * bit m.priming
            + 64 * m.outcome.code)]) (heard h s))) ∧
    (group = 3 → m.sessionTotal < 4294967296 →
      exec (.readMeasurements h group) s = .next (answered h 2 .ok
      (halfBytes (BitVec.ofNat 16 (m.sessionTotal / 65536)) ++ halfBytes (BitVec.ofNat 16 m.sessionTotal)
        ++ halfBytes (fitInt s.road.creep)
        ++ [byte (bit s.out.hold), byte (line 0 + 16 * line 1), byte (line 2 + 16 * line 3),
          byte (line 4 + 16 * line 5), byte (line 6 + 16 * line 7), byte (line 8 + 16 * line 9)])
        (heard h s))) ∧
    (3 < group.toNat → Refuses (.readMeasurements h group) h 2 .badValue s)

/-- Read Lockouts, Read Entry and Read Setting (R52, R163, R164, R168), in every state: the active list, oldest
first, up to 20 entries, with a count past 20 in bit 7 of the first six characters; the record of an entry,
whose remaining delay is in whole milliseconds, truncated (the model's choice, log entry 22); the newest
accepted value of an item the table names; and a refusal for a number outside the tables. A broadcast is heard
and has no reply (R155). Nothing else moves. -/
def Obligations.LockoutsAndSettingsAreRead : Prop :=
  ∀ (h : Header) (n : Byte) (e : Fin 32) (item : Half) (s : State), Receives h s →
    let count := s.ilk.active.length
    let entry := s.ilk.entries[e]
    let char (i : Nat) (m : Fin 32) : Byte :=
      byte (m.val + 32 * bit (s.ilk.entries[m].state == .held) + 64 * bit s.ilk.entries[m].silenced
        + 128 * bit (decide (20 < count) && decide (i < 6) && count.testBit (5 - i)))
    exec (.readLockouts h) s =
      .next (answered h 3 .ok ((s.ilk.active.take 20).mapIdx char) (heard h s)) ∧
    (n = byte e.val → exec (.readEntry h n) s = .next (answered h 4 .ok
      ([n, if e.val < 16 then 255 else byte (s.cfgN (256 + 5 * (e.val - 16))),
        byte (entryModes s e).code, byte (entryActions s e).code, byte (bit (entryLatches s e))]
        ++ halfBytes (fitHalf (entryDelay s e))
        ++ [byte entry.state.code, byte (bit entry.silenced)]
        ++ halfBytes (fitHalf (if entry.state = .pending then entry.delay.getD 0 / 1000 else 0))
        ++ [byte (if e ∈ s.ilk.active then s.ilk.active.idxOf e + 1 else 0)]) (heard h s))) ∧
    (32 ≤ n.toNat → Refuses (.readEntry h n) h 4 .badValue s) ∧
    (item.toNat ∈ itemNumbers → exec (.readSetting h item) s =
      .next (answered h 5 .ok (halfBytes item ++ halfBytes (tableValue s.store.live item.toNat))
        (heard h s))) ∧
    (item.toNat ∉ itemNumbers → Refuses (.readSetting h item) h 5 .badValue s)

/-- Fetch Reports (R157, R165): the reply carries the count, the remaining count and the records of the first
three entries of its own port's queue, which are marked as carried and stay; a broadcast fetches nothing. -/
def Obligations.FetchCarriesTheOldestReports : Prop :=
  ∀ (h : Header) (s : State), Receives h s →
    let u := heard h s
    let q := (u.port h.port).queue
    let record (e : ReportEntry) : List Byte :=
      [byte e.key.kindCode, byte e.key.subject, e.content.state] ++ halfBytes e.content.value
        ++ [e.content.flags]
    exec (.fetchReports h) s = .next
      (if h.bcast then u
      else u.modPort h.port fun r => { r with
        queue := (q.take 3).map (fun e => { e with carried := true }) ++ q.drop 3
        reply := some ⟨byte ((if h.origin = .service then 128 else 0) + h.tag.toNat), 6, 0,
          [byte (q.take 3).length, byte (q.length - (q.take 3).length)] ++ (q.take 3).flatMap record,
          (q.take 3).map (·.key)⟩ })

/-- Link Restart (R146, R158): a claim tied to the port is withdrawn, then authority tied to it passes to the
claimant or to none, and the lapsed condition stands; the port's queue holds the six resynchronisation reports,
with their owners' present contents, and its attention line is asserted; the other port's queue takes no more
than an AUTHORITY report. -/
def Obligations.LinkRestartBeginsAfresh : Prop :=
  ∀ (h : Header) (s : State), Receives h s → AuthorityLaw s →
    let u := heard h s
    let tied (x : Option Station) : Bool :=
      x == some (if h.port = .a then .panel else .cab) ||
        x == some .service && u.auth.servicePort == some h.port
    let claim : Option Station := if tied u.auth.claimant then none else u.auth.claimant
    let after : Authority :=
      if tied u.auth.holder then
        if claim = none ∨ claim = some .service ∧ s.pto.state ≠ .disengaged then
          ⟨none, none, none, none, u.auth.lapsed⟩
        else ⟨claim, none, if claim = some .service then u.auth.servicePort else none,
          some (ms (s.cfgN 240)), u.auth.lapsed⟩
      else { u.auth with
        claimant := claim
        servicePort := if claim ≠ u.auth.claimant ∧ u.auth.claimant = some .service then none
          else u.auth.servicePort }
    let tank (k : Tank) : Record := ⟨byte k.status.code, fitInt k.vrep,
      byte (k.cls.code + 4 * bit (k.reason == some .table))⟩
    let authority : Record := ⟨byte (stationCode after.holder), fitHalf (stationCode after.claimant),
      byte (bit after.lapsed)⟩
    ∃ t, exec (.linkRestart h) s = .next (answered h 96 .ok [] t) ∧
      t.auth = after ∧ Reacted { u with auth := after } t ∧ t.ilk = s.ilk ∧ t.pto = s.pto ∧
      t.gov = s.gov ∧ t.tank = s.tank ∧ t.out = s.out ∧
      (t.port h.port).queue =
        [⟨.mode, ⟨byte s.ilk.mode.code, 0, 0⟩, false⟩, ⟨.pto, ptoRecord s.pto, false⟩,
          ⟨.governor, ⟨byte s.gov.state.code,
            fitInt (if s.gov.state = .pressure then s.gov.ps else if s.gov.state = .speed then s.gov.ns
              else 0),
            byte (bit s.gov.cavitation + 2 * bit s.gov.overpressure + 4 * bit s.gov.fallback
              + 8 * bit s.gov.capActive)⟩, false⟩,
          ⟨.authority, authority, false⟩, ⟨.tank .water, tank s.tank.water, false⟩,
          ⟨.tank .foam, tank s.tank.foam, false⟩] ∧
      (t.port h.port).attention = true ∧
      (∀ p : Port, p ≠ h.port →
        (t.port p).queue =
          if tied u.auth.claimant = true ∨ tied u.auth.holder = true then
            enqueue .authority authority (s.port p).queue
          else (s.port p).queue)

/-! ## Settings (chapter 11) -/

/-- Write Setting, in the order of R167. Taken, the live table holds the new value and every other item stands;
and the owner takes it: a settled switch line is read under its new polarity (R22), Ps is brought within Pmax
(R73), a tank's table is judged (R101), one that is invalid ends its probe-order fault at once (R104; the
model's reading, log entry 18), and it seeds the filter where it is valid (R103) and moves Vrep into its first
and last volumes (R106), diagnostics turned on begin a blank and turned off end the fault (R137), and a
configurable entry begins again from CLEAR under its new fields (R36). That a write of ON over ON begins a blank
too is the model's choice (log entry 14). -/
def Obligations.WriteSettingIsJudged : Prop :=
  ∀ (h : Header) (item value : Half) (s : State), Receives h s → SettingsLaw s → s.store.live ≠ [] →
    ActiveLaw s → StopTaken s →
    let i := item.toNat
    let v := itemValue i value
    let table := tableSet s.store.live i value
    let new (j : Nat) : Int := itemValue j (tableValue table j)
    let spec := (itemSpec i).getD ⟨.range 0 0, 0, false⟩
    let u := { s with store := { s.store with live := table } }
    let tabled (k : TankId) : Tank :=
      let valid := pointsValid (strapPoints u k)
      { s.tankOf k with
        tableValid := valid
        reseed := (s.tankOf k).reseed || valid
        orderFault := (s.tankOf k).orderFault && valid
        vrep := clampInt (min (firstVolume u k) (lastVolume u k)) (max (firstVolume u k) (lastVolume u k))
          (s.tankOf k).vrep }
    if stationOf h.port h.origin ≠ .service then Refuses (.writeSetting h item value) h 80 .notPermitted s
    else if i ∉ itemNumbers then Refuses (.writeSetting h item value) h 80 .badValue s
    else if spec.parked = true ∧ (s.ilk.mode ≠ .parked ∨ s.pto.state ≠ .disengaged) then
      Refuses (.writeSetting h item value) h 80 .notPermitted s
    else if spec.domain.contains v = false ∨ relationKept new i = false then
      Refuses (.writeSetting h item value) h 80 .badValue s
    else
      ∃ t, exec (.writeSetting h item value) s = .next (answered h 80 .ok [] t) ∧
        t.store = { s.store with live := table } ∧ tableValue t.store.live i = value ∧
        (∀ j ∈ itemNumbers, j ≠ i → tableValue t.store.live j = tableValue s.store.live j) ∧
        Reacted { heard h s with store := t.store, disc := t.disc, tank := t.tank } t ∧
        t.tank = { s.tank with
          water := if 140 ≤ i ∧ i < 165 then tabled .water else s.tank.water
          foam := if 170 ≤ i ∧ i < 195 then tabled .foam else s.tank.foam } ∧
        t.ilk.mode = s.ilk.mode ∧ t.pto = s.pto ∧ t.out.hold = s.out.hold ∧ t.gov.work = s.gov.work ∧
        (∀ n : Fin 12, t.disc[n] =
          let reads := s.disc[n].raw == if v = 0 then Contact.closed else .opened
          if i = 20 + n.val ∧ s.disc[n].settled = true then
            { s.disc[n] with
              debounce := if reads = s.disc[n].active then none else some (ms (s.cfgN (40 + n.val))) }
          else s.disc[n]) ∧
        (i = 100 → t.gov.ps = min s.gov.ps v) ∧ (i ≠ 100 → t.gov.ps = s.gov.ps) ∧
        (∀ n : Fin 10, i = 220 + n.val →
          (v = 0 → t.out.lines[n].diag = .ok ∧ t.out.lines[n].retryPhase = none ∧
            t.out.lines[n].retryCount = 0) ∧
          (v = 1 → s.out.lines[n].diag.faulty = false →
            t.out.lines[n].diag = .blank ∧ t.out.lines[n].mismatch = none ∧ t.out.lines[n].blank =
              some (ms ([10, 20, 50, 100, 200, 500, 1000, 2000].getD (s.cfgN (230 + n.val)) 100)))) ∧
        (∀ n : Fin 32, 16 ≤ n.val → 256 + 5 * (n.val - 16) ≤ i → i < 261 + 5 * (n.val - 16) →
          t.ilk.entries[n].state =
            if effective t n = false then .clear else if entryDelay t n = 0 then .active else .pending)

/-- Store Settings and its completion (R169, R170): SERVICE alone stores, one store at a time, and the snapshot
is the whole live table; a completed store leaves the image it wrote, and is good where the image reads back as
the snapshot with its check: then defaults-in-use is cleared, entry 13 loses its source, and the SETTINGS report
says so. What the write left is the command's operand, absent for the snapshot with its check (the model's choice,
log entry 26). -/
def Obligations.StoreWritesTheImage : Prop :=
  (∀ (h : Header) (s : State), Receives h s →
    if stationOf h.port h.origin ≠ .service then Refuses (.storeSettings h) h 81 .notPermitted s
    else if s.store.snapshot ≠ none then Refuses (.storeSettings h) h 81 .busy s
    else exec (.storeSettings h) s = .next (answered h 81 .ok [] { heard h s with
      store := { s.store with snapshot := some (itemNumbers.map (tableValue s.store.live)) } })) ∧
  (∀ (left : Option NvImage) (s : State), NoticesTaken s →
    if s.store.snapshot = none then exec (.storeComplete left) s = .next s
    else
      let snap := s.store.snapshot.getD []
      let image := left.getD ⟨snap, crc16 (snap.flatMap halfBytes)⟩
      let good := decide (image = ⟨snap, crc16 (snap.flatMap halfBytes)⟩)
      let use := s.store.defaultsInUse && !good
      ∃ t, exec (.storeComplete left) s = .next t ∧
        t.store = { s.store with image := image, snapshot := none, defaultsInUse := use } ∧
        Reacted { s with store := t.store } t ∧ t.ilk.mode = s.ilk.mode ∧ t.pto = s.pto ∧
        t.ilk.active = s.ilk.active ∧ t.gov = s.gov ∧ t.out = s.out ∧ t.tank = s.tank ∧
        Reported .settings ⟨byte (bit (!good)), 0, byte (bit use)⟩ t ∧
        (good = true → s.store.defaultsInUse = true → s.ilk.entries[13].state = .active →
          t.ilk.entries[13].state = .held))
end

