-- ==== Sys2Proof/Laws/State.lean ====
section
/-! SUPPORT. What each update of the state does to each field: the field it updates takes the new value, and
every other field stands. All hold by definition, so that no proof unfolds an update. -/

namespace Sys2Proof.Machine

variable (s : State)

/-! `modCtl` -/

@[simp] theorem State.modCtl_ctl (f : ResetControl → ResetControl) : (s.modCtl f).ctl = f s.ctl := rfl
@[simp] theorem State.modCtl_pulse (f : ResetControl → ResetControl) : (s.modCtl f).pulse = s.pulse := rfl
@[simp] theorem State.modCtl_road (f : ResetControl → ResetControl) : (s.modCtl f).road = s.road := rfl
@[simp] theorem State.modCtl_analog (f : ResetControl → ResetControl) : (s.modCtl f).analog = s.analog := rfl
@[simp] theorem State.modCtl_disc (f : ResetControl → ResetControl) : (s.modCtl f).disc = s.disc := rfl
@[simp] theorem State.modCtl_ilk (f : ResetControl → ResetControl) : (s.modCtl f).ilk = s.ilk := rfl
@[simp] theorem State.modCtl_pto (f : ResetControl → ResetControl) : (s.modCtl f).pto = s.pto := rfl
@[simp] theorem State.modCtl_gov (f : ResetControl → ResetControl) : (s.modCtl f).gov = s.gov := rfl
@[simp] theorem State.modCtl_pwm (f : ResetControl → ResetControl) : (s.modCtl f).pwm = s.pwm := rfl
@[simp] theorem State.modCtl_tank (f : ResetControl → ResetControl) : (s.modCtl f).tank = s.tank := rfl
@[simp] theorem State.modCtl_out (f : ResetControl → ResetControl) : (s.modCtl f).out = s.out := rfl
@[simp] theorem State.modCtl_auth (f : ResetControl → ResetControl) : (s.modCtl f).auth = s.auth := rfl
@[simp] theorem State.modCtl_links (f : ResetControl → ResetControl) : (s.modCtl f).links = s.links := rfl
@[simp] theorem State.modCtl_store (f : ResetControl → ResetControl) : (s.modCtl f).store = s.store := rfl
@[simp] theorem State.modCtl_pending (f : ResetControl → ResetControl) : (s.modCtl f).pending = s.pending := rfl
@[simp] theorem State.modCtl_cfg (f : ResetControl → ResetControl) (i : Nat) : (s.modCtl f).cfg i = s.cfg i := rfl
@[simp] theorem State.modCtl_cfgN (f : ResetControl → ResetControl) (i : Nat) : (s.modCtl f).cfgN i = s.cfgN i := rfl

/-! `modPulse` -/

@[simp] theorem State.modPulse_ctl (f : Pulse → Pulse) : (s.modPulse f).ctl = s.ctl := rfl
@[simp] theorem State.modPulse_pulse (f : Pulse → Pulse) : (s.modPulse f).pulse = f s.pulse := rfl
@[simp] theorem State.modPulse_road (f : Pulse → Pulse) : (s.modPulse f).road = s.road := rfl
@[simp] theorem State.modPulse_analog (f : Pulse → Pulse) : (s.modPulse f).analog = s.analog := rfl
@[simp] theorem State.modPulse_disc (f : Pulse → Pulse) : (s.modPulse f).disc = s.disc := rfl
@[simp] theorem State.modPulse_ilk (f : Pulse → Pulse) : (s.modPulse f).ilk = s.ilk := rfl
@[simp] theorem State.modPulse_pto (f : Pulse → Pulse) : (s.modPulse f).pto = s.pto := rfl
@[simp] theorem State.modPulse_gov (f : Pulse → Pulse) : (s.modPulse f).gov = s.gov := rfl
@[simp] theorem State.modPulse_pwm (f : Pulse → Pulse) : (s.modPulse f).pwm = s.pwm := rfl
@[simp] theorem State.modPulse_tank (f : Pulse → Pulse) : (s.modPulse f).tank = s.tank := rfl
@[simp] theorem State.modPulse_out (f : Pulse → Pulse) : (s.modPulse f).out = s.out := rfl
@[simp] theorem State.modPulse_auth (f : Pulse → Pulse) : (s.modPulse f).auth = s.auth := rfl
@[simp] theorem State.modPulse_links (f : Pulse → Pulse) : (s.modPulse f).links = s.links := rfl
@[simp] theorem State.modPulse_store (f : Pulse → Pulse) : (s.modPulse f).store = s.store := rfl
@[simp] theorem State.modPulse_pending (f : Pulse → Pulse) : (s.modPulse f).pending = s.pending := rfl
@[simp] theorem State.modPulse_cfg (f : Pulse → Pulse) (i : Nat) : (s.modPulse f).cfg i = s.cfg i := rfl
@[simp] theorem State.modPulse_cfgN (f : Pulse → Pulse) (i : Nat) : (s.modPulse f).cfgN i = s.cfgN i := rfl

/-! `modRoad` -/

@[simp] theorem State.modRoad_ctl (f : Road → Road) : (s.modRoad f).ctl = s.ctl := rfl
@[simp] theorem State.modRoad_pulse (f : Road → Road) : (s.modRoad f).pulse = s.pulse := rfl
@[simp] theorem State.modRoad_road (f : Road → Road) : (s.modRoad f).road = f s.road := rfl
@[simp] theorem State.modRoad_analog (f : Road → Road) : (s.modRoad f).analog = s.analog := rfl
@[simp] theorem State.modRoad_disc (f : Road → Road) : (s.modRoad f).disc = s.disc := rfl
@[simp] theorem State.modRoad_ilk (f : Road → Road) : (s.modRoad f).ilk = s.ilk := rfl
@[simp] theorem State.modRoad_pto (f : Road → Road) : (s.modRoad f).pto = s.pto := rfl
@[simp] theorem State.modRoad_gov (f : Road → Road) : (s.modRoad f).gov = s.gov := rfl
@[simp] theorem State.modRoad_pwm (f : Road → Road) : (s.modRoad f).pwm = s.pwm := rfl
@[simp] theorem State.modRoad_tank (f : Road → Road) : (s.modRoad f).tank = s.tank := rfl
@[simp] theorem State.modRoad_out (f : Road → Road) : (s.modRoad f).out = s.out := rfl
@[simp] theorem State.modRoad_auth (f : Road → Road) : (s.modRoad f).auth = s.auth := rfl
@[simp] theorem State.modRoad_links (f : Road → Road) : (s.modRoad f).links = s.links := rfl
@[simp] theorem State.modRoad_store (f : Road → Road) : (s.modRoad f).store = s.store := rfl
@[simp] theorem State.modRoad_pending (f : Road → Road) : (s.modRoad f).pending = s.pending := rfl
@[simp] theorem State.modRoad_cfg (f : Road → Road) (i : Nat) : (s.modRoad f).cfg i = s.cfg i := rfl
@[simp] theorem State.modRoad_cfgN (f : Road → Road) (i : Nat) : (s.modRoad f).cfgN i = s.cfgN i := rfl

/-! `modAnalog` -/

@[simp] theorem State.modAnalog_ctl (f : Analog → Analog) : (s.modAnalog f).ctl = s.ctl := rfl
@[simp] theorem State.modAnalog_pulse (f : Analog → Analog) : (s.modAnalog f).pulse = s.pulse := rfl
@[simp] theorem State.modAnalog_road (f : Analog → Analog) : (s.modAnalog f).road = s.road := rfl
@[simp] theorem State.modAnalog_analog (f : Analog → Analog) : (s.modAnalog f).analog = f s.analog := rfl
@[simp] theorem State.modAnalog_disc (f : Analog → Analog) : (s.modAnalog f).disc = s.disc := rfl
@[simp] theorem State.modAnalog_ilk (f : Analog → Analog) : (s.modAnalog f).ilk = s.ilk := rfl
@[simp] theorem State.modAnalog_pto (f : Analog → Analog) : (s.modAnalog f).pto = s.pto := rfl
@[simp] theorem State.modAnalog_gov (f : Analog → Analog) : (s.modAnalog f).gov = s.gov := rfl
@[simp] theorem State.modAnalog_pwm (f : Analog → Analog) : (s.modAnalog f).pwm = s.pwm := rfl
@[simp] theorem State.modAnalog_tank (f : Analog → Analog) : (s.modAnalog f).tank = s.tank := rfl
@[simp] theorem State.modAnalog_out (f : Analog → Analog) : (s.modAnalog f).out = s.out := rfl
@[simp] theorem State.modAnalog_auth (f : Analog → Analog) : (s.modAnalog f).auth = s.auth := rfl
@[simp] theorem State.modAnalog_links (f : Analog → Analog) : (s.modAnalog f).links = s.links := rfl
@[simp] theorem State.modAnalog_store (f : Analog → Analog) : (s.modAnalog f).store = s.store := rfl
@[simp] theorem State.modAnalog_pending (f : Analog → Analog) : (s.modAnalog f).pending = s.pending := rfl
@[simp] theorem State.modAnalog_cfg (f : Analog → Analog) (i : Nat) : (s.modAnalog f).cfg i = s.cfg i := rfl
@[simp] theorem State.modAnalog_cfgN (f : Analog → Analog) (i : Nat) : (s.modAnalog f).cfgN i = s.cfgN i := rfl

/-! `modDisc` -/

@[simp] theorem State.modDisc_ctl (f : Vector SwitchLine 12 → Vector SwitchLine 12) : (s.modDisc f).ctl = s.ctl := rfl
@[simp] theorem State.modDisc_pulse (f : Vector SwitchLine 12 → Vector SwitchLine 12) : (s.modDisc f).pulse = s.pulse := rfl
@[simp] theorem State.modDisc_road (f : Vector SwitchLine 12 → Vector SwitchLine 12) : (s.modDisc f).road = s.road := rfl
@[simp] theorem State.modDisc_analog (f : Vector SwitchLine 12 → Vector SwitchLine 12) : (s.modDisc f).analog = s.analog := rfl
@[simp] theorem State.modDisc_disc (f : Vector SwitchLine 12 → Vector SwitchLine 12) : (s.modDisc f).disc = f s.disc := rfl
@[simp] theorem State.modDisc_ilk (f : Vector SwitchLine 12 → Vector SwitchLine 12) : (s.modDisc f).ilk = s.ilk := rfl
@[simp] theorem State.modDisc_pto (f : Vector SwitchLine 12 → Vector SwitchLine 12) : (s.modDisc f).pto = s.pto := rfl
@[simp] theorem State.modDisc_gov (f : Vector SwitchLine 12 → Vector SwitchLine 12) : (s.modDisc f).gov = s.gov := rfl
@[simp] theorem State.modDisc_pwm (f : Vector SwitchLine 12 → Vector SwitchLine 12) : (s.modDisc f).pwm = s.pwm := rfl
@[simp] theorem State.modDisc_tank (f : Vector SwitchLine 12 → Vector SwitchLine 12) : (s.modDisc f).tank = s.tank := rfl
@[simp] theorem State.modDisc_out (f : Vector SwitchLine 12 → Vector SwitchLine 12) : (s.modDisc f).out = s.out := rfl
@[simp] theorem State.modDisc_auth (f : Vector SwitchLine 12 → Vector SwitchLine 12) : (s.modDisc f).auth = s.auth := rfl
@[simp] theorem State.modDisc_links (f : Vector SwitchLine 12 → Vector SwitchLine 12) : (s.modDisc f).links = s.links := rfl
@[simp] theorem State.modDisc_store (f : Vector SwitchLine 12 → Vector SwitchLine 12) : (s.modDisc f).store = s.store := rfl
@[simp] theorem State.modDisc_pending (f : Vector SwitchLine 12 → Vector SwitchLine 12) : (s.modDisc f).pending = s.pending := rfl
@[simp] theorem State.modDisc_cfg (f : Vector SwitchLine 12 → Vector SwitchLine 12) (i : Nat) : (s.modDisc f).cfg i = s.cfg i := rfl
@[simp] theorem State.modDisc_cfgN (f : Vector SwitchLine 12 → Vector SwitchLine 12) (i : Nat) : (s.modDisc f).cfgN i = s.cfgN i := rfl

/-! `modIlk` -/

@[simp] theorem State.modIlk_ctl (f : Interlock → Interlock) : (s.modIlk f).ctl = s.ctl := rfl
@[simp] theorem State.modIlk_pulse (f : Interlock → Interlock) : (s.modIlk f).pulse = s.pulse := rfl
@[simp] theorem State.modIlk_road (f : Interlock → Interlock) : (s.modIlk f).road = s.road := rfl
@[simp] theorem State.modIlk_analog (f : Interlock → Interlock) : (s.modIlk f).analog = s.analog := rfl
@[simp] theorem State.modIlk_disc (f : Interlock → Interlock) : (s.modIlk f).disc = s.disc := rfl
@[simp] theorem State.modIlk_ilk (f : Interlock → Interlock) : (s.modIlk f).ilk = f s.ilk := rfl
@[simp] theorem State.modIlk_pto (f : Interlock → Interlock) : (s.modIlk f).pto = s.pto := rfl
@[simp] theorem State.modIlk_gov (f : Interlock → Interlock) : (s.modIlk f).gov = s.gov := rfl
@[simp] theorem State.modIlk_pwm (f : Interlock → Interlock) : (s.modIlk f).pwm = s.pwm := rfl
@[simp] theorem State.modIlk_tank (f : Interlock → Interlock) : (s.modIlk f).tank = s.tank := rfl
@[simp] theorem State.modIlk_out (f : Interlock → Interlock) : (s.modIlk f).out = s.out := rfl
@[simp] theorem State.modIlk_auth (f : Interlock → Interlock) : (s.modIlk f).auth = s.auth := rfl
@[simp] theorem State.modIlk_links (f : Interlock → Interlock) : (s.modIlk f).links = s.links := rfl
@[simp] theorem State.modIlk_store (f : Interlock → Interlock) : (s.modIlk f).store = s.store := rfl
@[simp] theorem State.modIlk_pending (f : Interlock → Interlock) : (s.modIlk f).pending = s.pending := rfl
@[simp] theorem State.modIlk_cfg (f : Interlock → Interlock) (i : Nat) : (s.modIlk f).cfg i = s.cfg i := rfl
@[simp] theorem State.modIlk_cfgN (f : Interlock → Interlock) (i : Nat) : (s.modIlk f).cfgN i = s.cfgN i := rfl

/-! `modPto` -/

@[simp] theorem State.modPto_ctl (f : Pto → Pto) : (s.modPto f).ctl = s.ctl := rfl
@[simp] theorem State.modPto_pulse (f : Pto → Pto) : (s.modPto f).pulse = s.pulse := rfl
@[simp] theorem State.modPto_road (f : Pto → Pto) : (s.modPto f).road = s.road := rfl
@[simp] theorem State.modPto_analog (f : Pto → Pto) : (s.modPto f).analog = s.analog := rfl
@[simp] theorem State.modPto_disc (f : Pto → Pto) : (s.modPto f).disc = s.disc := rfl
@[simp] theorem State.modPto_ilk (f : Pto → Pto) : (s.modPto f).ilk = s.ilk := rfl
@[simp] theorem State.modPto_pto (f : Pto → Pto) : (s.modPto f).pto = f s.pto := rfl
@[simp] theorem State.modPto_gov (f : Pto → Pto) : (s.modPto f).gov = s.gov := rfl
@[simp] theorem State.modPto_pwm (f : Pto → Pto) : (s.modPto f).pwm = s.pwm := rfl
@[simp] theorem State.modPto_tank (f : Pto → Pto) : (s.modPto f).tank = s.tank := rfl
@[simp] theorem State.modPto_out (f : Pto → Pto) : (s.modPto f).out = s.out := rfl
@[simp] theorem State.modPto_auth (f : Pto → Pto) : (s.modPto f).auth = s.auth := rfl
@[simp] theorem State.modPto_links (f : Pto → Pto) : (s.modPto f).links = s.links := rfl
@[simp] theorem State.modPto_store (f : Pto → Pto) : (s.modPto f).store = s.store := rfl
@[simp] theorem State.modPto_pending (f : Pto → Pto) : (s.modPto f).pending = s.pending := rfl
@[simp] theorem State.modPto_cfg (f : Pto → Pto) (i : Nat) : (s.modPto f).cfg i = s.cfg i := rfl
@[simp] theorem State.modPto_cfgN (f : Pto → Pto) (i : Nat) : (s.modPto f).cfgN i = s.cfgN i := rfl

/-! `modGov` -/

@[simp] theorem State.modGov_ctl (f : Governor → Governor) : (s.modGov f).ctl = s.ctl := rfl
@[simp] theorem State.modGov_pulse (f : Governor → Governor) : (s.modGov f).pulse = s.pulse := rfl
@[simp] theorem State.modGov_road (f : Governor → Governor) : (s.modGov f).road = s.road := rfl
@[simp] theorem State.modGov_analog (f : Governor → Governor) : (s.modGov f).analog = s.analog := rfl
@[simp] theorem State.modGov_disc (f : Governor → Governor) : (s.modGov f).disc = s.disc := rfl
@[simp] theorem State.modGov_ilk (f : Governor → Governor) : (s.modGov f).ilk = s.ilk := rfl
@[simp] theorem State.modGov_pto (f : Governor → Governor) : (s.modGov f).pto = s.pto := rfl
@[simp] theorem State.modGov_gov (f : Governor → Governor) : (s.modGov f).gov = f s.gov := rfl
@[simp] theorem State.modGov_pwm (f : Governor → Governor) : (s.modGov f).pwm = s.pwm := rfl
@[simp] theorem State.modGov_tank (f : Governor → Governor) : (s.modGov f).tank = s.tank := rfl
@[simp] theorem State.modGov_out (f : Governor → Governor) : (s.modGov f).out = s.out := rfl
@[simp] theorem State.modGov_auth (f : Governor → Governor) : (s.modGov f).auth = s.auth := rfl
@[simp] theorem State.modGov_links (f : Governor → Governor) : (s.modGov f).links = s.links := rfl
@[simp] theorem State.modGov_store (f : Governor → Governor) : (s.modGov f).store = s.store := rfl
@[simp] theorem State.modGov_pending (f : Governor → Governor) : (s.modGov f).pending = s.pending := rfl
@[simp] theorem State.modGov_cfg (f : Governor → Governor) (i : Nat) : (s.modGov f).cfg i = s.cfg i := rfl
@[simp] theorem State.modGov_cfgN (f : Governor → Governor) (i : Nat) : (s.modGov f).cfgN i = s.cfgN i := rfl

/-! `modPwm` -/

@[simp] theorem State.modPwm_ctl (f : Throttle → Throttle) : (s.modPwm f).ctl = s.ctl := rfl
@[simp] theorem State.modPwm_pulse (f : Throttle → Throttle) : (s.modPwm f).pulse = s.pulse := rfl
@[simp] theorem State.modPwm_road (f : Throttle → Throttle) : (s.modPwm f).road = s.road := rfl
@[simp] theorem State.modPwm_analog (f : Throttle → Throttle) : (s.modPwm f).analog = s.analog := rfl
@[simp] theorem State.modPwm_disc (f : Throttle → Throttle) : (s.modPwm f).disc = s.disc := rfl
@[simp] theorem State.modPwm_ilk (f : Throttle → Throttle) : (s.modPwm f).ilk = s.ilk := rfl
@[simp] theorem State.modPwm_pto (f : Throttle → Throttle) : (s.modPwm f).pto = s.pto := rfl
@[simp] theorem State.modPwm_gov (f : Throttle → Throttle) : (s.modPwm f).gov = s.gov := rfl
@[simp] theorem State.modPwm_pwm (f : Throttle → Throttle) : (s.modPwm f).pwm = f s.pwm := rfl
@[simp] theorem State.modPwm_tank (f : Throttle → Throttle) : (s.modPwm f).tank = s.tank := rfl
@[simp] theorem State.modPwm_out (f : Throttle → Throttle) : (s.modPwm f).out = s.out := rfl
@[simp] theorem State.modPwm_auth (f : Throttle → Throttle) : (s.modPwm f).auth = s.auth := rfl
@[simp] theorem State.modPwm_links (f : Throttle → Throttle) : (s.modPwm f).links = s.links := rfl
@[simp] theorem State.modPwm_store (f : Throttle → Throttle) : (s.modPwm f).store = s.store := rfl
@[simp] theorem State.modPwm_pending (f : Throttle → Throttle) : (s.modPwm f).pending = s.pending := rfl
@[simp] theorem State.modPwm_cfg (f : Throttle → Throttle) (i : Nat) : (s.modPwm f).cfg i = s.cfg i := rfl
@[simp] theorem State.modPwm_cfgN (f : Throttle → Throttle) (i : Nat) : (s.modPwm f).cfgN i = s.cfgN i := rfl

/-! `modTank` -/

@[simp] theorem State.modTank_ctl (f : TankMonitor → TankMonitor) : (s.modTank f).ctl = s.ctl := rfl
@[simp] theorem State.modTank_pulse (f : TankMonitor → TankMonitor) : (s.modTank f).pulse = s.pulse := rfl
@[simp] theorem State.modTank_road (f : TankMonitor → TankMonitor) : (s.modTank f).road = s.road := rfl
@[simp] theorem State.modTank_analog (f : TankMonitor → TankMonitor) : (s.modTank f).analog = s.analog := rfl
@[simp] theorem State.modTank_disc (f : TankMonitor → TankMonitor) : (s.modTank f).disc = s.disc := rfl
@[simp] theorem State.modTank_ilk (f : TankMonitor → TankMonitor) : (s.modTank f).ilk = s.ilk := rfl
@[simp] theorem State.modTank_pto (f : TankMonitor → TankMonitor) : (s.modTank f).pto = s.pto := rfl
@[simp] theorem State.modTank_gov (f : TankMonitor → TankMonitor) : (s.modTank f).gov = s.gov := rfl
@[simp] theorem State.modTank_pwm (f : TankMonitor → TankMonitor) : (s.modTank f).pwm = s.pwm := rfl
@[simp] theorem State.modTank_tank (f : TankMonitor → TankMonitor) : (s.modTank f).tank = f s.tank := rfl
@[simp] theorem State.modTank_out (f : TankMonitor → TankMonitor) : (s.modTank f).out = s.out := rfl
@[simp] theorem State.modTank_auth (f : TankMonitor → TankMonitor) : (s.modTank f).auth = s.auth := rfl
@[simp] theorem State.modTank_links (f : TankMonitor → TankMonitor) : (s.modTank f).links = s.links := rfl
@[simp] theorem State.modTank_store (f : TankMonitor → TankMonitor) : (s.modTank f).store = s.store := rfl
@[simp] theorem State.modTank_pending (f : TankMonitor → TankMonitor) : (s.modTank f).pending = s.pending := rfl
@[simp] theorem State.modTank_cfg (f : TankMonitor → TankMonitor) (i : Nat) : (s.modTank f).cfg i = s.cfg i := rfl
@[simp] theorem State.modTank_cfgN (f : TankMonitor → TankMonitor) (i : Nat) : (s.modTank f).cfgN i = s.cfgN i := rfl

/-! `modOut` -/

@[simp] theorem State.modOut_ctl (f : Outputs → Outputs) : (s.modOut f).ctl = s.ctl := rfl
@[simp] theorem State.modOut_pulse (f : Outputs → Outputs) : (s.modOut f).pulse = s.pulse := rfl
@[simp] theorem State.modOut_road (f : Outputs → Outputs) : (s.modOut f).road = s.road := rfl
@[simp] theorem State.modOut_analog (f : Outputs → Outputs) : (s.modOut f).analog = s.analog := rfl
@[simp] theorem State.modOut_disc (f : Outputs → Outputs) : (s.modOut f).disc = s.disc := rfl
@[simp] theorem State.modOut_ilk (f : Outputs → Outputs) : (s.modOut f).ilk = s.ilk := rfl
@[simp] theorem State.modOut_pto (f : Outputs → Outputs) : (s.modOut f).pto = s.pto := rfl
@[simp] theorem State.modOut_gov (f : Outputs → Outputs) : (s.modOut f).gov = s.gov := rfl
@[simp] theorem State.modOut_pwm (f : Outputs → Outputs) : (s.modOut f).pwm = s.pwm := rfl
@[simp] theorem State.modOut_tank (f : Outputs → Outputs) : (s.modOut f).tank = s.tank := rfl
@[simp] theorem State.modOut_out (f : Outputs → Outputs) : (s.modOut f).out = f s.out := rfl
@[simp] theorem State.modOut_auth (f : Outputs → Outputs) : (s.modOut f).auth = s.auth := rfl
@[simp] theorem State.modOut_links (f : Outputs → Outputs) : (s.modOut f).links = s.links := rfl
@[simp] theorem State.modOut_store (f : Outputs → Outputs) : (s.modOut f).store = s.store := rfl
@[simp] theorem State.modOut_pending (f : Outputs → Outputs) : (s.modOut f).pending = s.pending := rfl
@[simp] theorem State.modOut_cfg (f : Outputs → Outputs) (i : Nat) : (s.modOut f).cfg i = s.cfg i := rfl
@[simp] theorem State.modOut_cfgN (f : Outputs → Outputs) (i : Nat) : (s.modOut f).cfgN i = s.cfgN i := rfl

/-! `modAuth` -/

@[simp] theorem State.modAuth_ctl (f : Authority → Authority) : (s.modAuth f).ctl = s.ctl := rfl
@[simp] theorem State.modAuth_pulse (f : Authority → Authority) : (s.modAuth f).pulse = s.pulse := rfl
@[simp] theorem State.modAuth_road (f : Authority → Authority) : (s.modAuth f).road = s.road := rfl
@[simp] theorem State.modAuth_analog (f : Authority → Authority) : (s.modAuth f).analog = s.analog := rfl
@[simp] theorem State.modAuth_disc (f : Authority → Authority) : (s.modAuth f).disc = s.disc := rfl
@[simp] theorem State.modAuth_ilk (f : Authority → Authority) : (s.modAuth f).ilk = s.ilk := rfl
@[simp] theorem State.modAuth_pto (f : Authority → Authority) : (s.modAuth f).pto = s.pto := rfl
@[simp] theorem State.modAuth_gov (f : Authority → Authority) : (s.modAuth f).gov = s.gov := rfl
@[simp] theorem State.modAuth_pwm (f : Authority → Authority) : (s.modAuth f).pwm = s.pwm := rfl
@[simp] theorem State.modAuth_tank (f : Authority → Authority) : (s.modAuth f).tank = s.tank := rfl
@[simp] theorem State.modAuth_out (f : Authority → Authority) : (s.modAuth f).out = s.out := rfl
@[simp] theorem State.modAuth_auth (f : Authority → Authority) : (s.modAuth f).auth = f s.auth := rfl
@[simp] theorem State.modAuth_links (f : Authority → Authority) : (s.modAuth f).links = s.links := rfl
@[simp] theorem State.modAuth_store (f : Authority → Authority) : (s.modAuth f).store = s.store := rfl
@[simp] theorem State.modAuth_pending (f : Authority → Authority) : (s.modAuth f).pending = s.pending := rfl
@[simp] theorem State.modAuth_cfg (f : Authority → Authority) (i : Nat) : (s.modAuth f).cfg i = s.cfg i := rfl
@[simp] theorem State.modAuth_cfgN (f : Authority → Authority) (i : Nat) : (s.modAuth f).cfgN i = s.cfgN i := rfl

/-! `modLinks` -/

@[simp] theorem State.modLinks_ctl (f : Links → Links) : (s.modLinks f).ctl = s.ctl := rfl
@[simp] theorem State.modLinks_pulse (f : Links → Links) : (s.modLinks f).pulse = s.pulse := rfl
@[simp] theorem State.modLinks_road (f : Links → Links) : (s.modLinks f).road = s.road := rfl
@[simp] theorem State.modLinks_analog (f : Links → Links) : (s.modLinks f).analog = s.analog := rfl
@[simp] theorem State.modLinks_disc (f : Links → Links) : (s.modLinks f).disc = s.disc := rfl
@[simp] theorem State.modLinks_ilk (f : Links → Links) : (s.modLinks f).ilk = s.ilk := rfl
@[simp] theorem State.modLinks_pto (f : Links → Links) : (s.modLinks f).pto = s.pto := rfl
@[simp] theorem State.modLinks_gov (f : Links → Links) : (s.modLinks f).gov = s.gov := rfl
@[simp] theorem State.modLinks_pwm (f : Links → Links) : (s.modLinks f).pwm = s.pwm := rfl
@[simp] theorem State.modLinks_tank (f : Links → Links) : (s.modLinks f).tank = s.tank := rfl
@[simp] theorem State.modLinks_out (f : Links → Links) : (s.modLinks f).out = s.out := rfl
@[simp] theorem State.modLinks_auth (f : Links → Links) : (s.modLinks f).auth = s.auth := rfl
@[simp] theorem State.modLinks_links (f : Links → Links) : (s.modLinks f).links = f s.links := rfl
@[simp] theorem State.modLinks_store (f : Links → Links) : (s.modLinks f).store = s.store := rfl
@[simp] theorem State.modLinks_pending (f : Links → Links) : (s.modLinks f).pending = s.pending := rfl
@[simp] theorem State.modLinks_cfg (f : Links → Links) (i : Nat) : (s.modLinks f).cfg i = s.cfg i := rfl
@[simp] theorem State.modLinks_cfgN (f : Links → Links) (i : Nat) : (s.modLinks f).cfgN i = s.cfgN i := rfl

/-! `modStore` -/

@[simp] theorem State.modStore_ctl (f : Store → Store) : (s.modStore f).ctl = s.ctl := rfl
@[simp] theorem State.modStore_pulse (f : Store → Store) : (s.modStore f).pulse = s.pulse := rfl
@[simp] theorem State.modStore_road (f : Store → Store) : (s.modStore f).road = s.road := rfl
@[simp] theorem State.modStore_analog (f : Store → Store) : (s.modStore f).analog = s.analog := rfl
@[simp] theorem State.modStore_disc (f : Store → Store) : (s.modStore f).disc = s.disc := rfl
@[simp] theorem State.modStore_ilk (f : Store → Store) : (s.modStore f).ilk = s.ilk := rfl
@[simp] theorem State.modStore_pto (f : Store → Store) : (s.modStore f).pto = s.pto := rfl
@[simp] theorem State.modStore_gov (f : Store → Store) : (s.modStore f).gov = s.gov := rfl
@[simp] theorem State.modStore_pwm (f : Store → Store) : (s.modStore f).pwm = s.pwm := rfl
@[simp] theorem State.modStore_tank (f : Store → Store) : (s.modStore f).tank = s.tank := rfl
@[simp] theorem State.modStore_out (f : Store → Store) : (s.modStore f).out = s.out := rfl
@[simp] theorem State.modStore_auth (f : Store → Store) : (s.modStore f).auth = s.auth := rfl
@[simp] theorem State.modStore_links (f : Store → Store) : (s.modStore f).links = s.links := rfl
@[simp] theorem State.modStore_store (f : Store → Store) : (s.modStore f).store = f s.store := rfl
@[simp] theorem State.modStore_pending (f : Store → Store) : (s.modStore f).pending = s.pending := rfl

/-! `modLine` -/

@[simp] theorem State.modLine_ctl (n : Fin 10) (f : OutputLine → OutputLine) :
    (s.modLine n f).ctl = s.ctl := rfl
@[simp] theorem State.modLine_pulse (n : Fin 10) (f : OutputLine → OutputLine) :
    (s.modLine n f).pulse = s.pulse := rfl
@[simp] theorem State.modLine_road (n : Fin 10) (f : OutputLine → OutputLine) :
    (s.modLine n f).road = s.road := rfl
@[simp] theorem State.modLine_analog (n : Fin 10) (f : OutputLine → OutputLine) :
    (s.modLine n f).analog = s.analog := rfl
@[simp] theorem State.modLine_disc (n : Fin 10) (f : OutputLine → OutputLine) :
    (s.modLine n f).disc = s.disc := rfl
@[simp] theorem State.modLine_ilk (n : Fin 10) (f : OutputLine → OutputLine) :
    (s.modLine n f).ilk = s.ilk := rfl
@[simp] theorem State.modLine_pto (n : Fin 10) (f : OutputLine → OutputLine) :
    (s.modLine n f).pto = s.pto := rfl
@[simp] theorem State.modLine_gov (n : Fin 10) (f : OutputLine → OutputLine) :
    (s.modLine n f).gov = s.gov := rfl
@[simp] theorem State.modLine_pwm (n : Fin 10) (f : OutputLine → OutputLine) :
    (s.modLine n f).pwm = s.pwm := rfl
@[simp] theorem State.modLine_tank (n : Fin 10) (f : OutputLine → OutputLine) :
    (s.modLine n f).tank = s.tank := rfl
@[simp] theorem State.modLine_out (n : Fin 10) (f : OutputLine → OutputLine) :
    (s.modLine n f).out = { s.out with lines := s.out.lines.set n (f s.out.lines[n]) } := rfl
@[simp] theorem State.modLine_auth (n : Fin 10) (f : OutputLine → OutputLine) :
    (s.modLine n f).auth = s.auth := rfl
@[simp] theorem State.modLine_links (n : Fin 10) (f : OutputLine → OutputLine) :
    (s.modLine n f).links = s.links := rfl
@[simp] theorem State.modLine_store (n : Fin 10) (f : OutputLine → OutputLine) :
    (s.modLine n f).store = s.store := rfl
@[simp] theorem State.modLine_pending (n : Fin 10) (f : OutputLine → OutputLine) :
    (s.modLine n f).pending = s.pending := rfl
@[simp] theorem State.modLine_cfg (n : Fin 10) (f : OutputLine → OutputLine) (j : Nat) : (s.modLine n f).cfg j = s.cfg j := rfl
@[simp] theorem State.modLine_cfgN (n : Fin 10) (f : OutputLine → OutputLine) (j : Nat) : (s.modLine n f).cfgN j = s.cfgN j := rfl

/-! `modEntry` -/

@[simp] theorem State.modEntry_ctl (n : Fin 32) (f : Entry → Entry) :
    (s.modEntry n f).ctl = s.ctl := rfl
@[simp] theorem State.modEntry_pulse (n : Fin 32) (f : Entry → Entry) :
    (s.modEntry n f).pulse = s.pulse := rfl
@[simp] theorem State.modEntry_road (n : Fin 32) (f : Entry → Entry) :
    (s.modEntry n f).road = s.road := rfl
@[simp] theorem State.modEntry_analog (n : Fin 32) (f : Entry → Entry) :
    (s.modEntry n f).analog = s.analog := rfl
@[simp] theorem State.modEntry_disc (n : Fin 32) (f : Entry → Entry) :
    (s.modEntry n f).disc = s.disc := rfl
@[simp] theorem State.modEntry_ilk (n : Fin 32) (f : Entry → Entry) :
    (s.modEntry n f).ilk = { s.ilk with entries := s.ilk.entries.set n (f s.ilk.entries[n]) } := rfl
@[simp] theorem State.modEntry_pto (n : Fin 32) (f : Entry → Entry) :
    (s.modEntry n f).pto = s.pto := rfl
@[simp] theorem State.modEntry_gov (n : Fin 32) (f : Entry → Entry) :
    (s.modEntry n f).gov = s.gov := rfl
@[simp] theorem State.modEntry_pwm (n : Fin 32) (f : Entry → Entry) :
    (s.modEntry n f).pwm = s.pwm := rfl
@[simp] theorem State.modEntry_tank (n : Fin 32) (f : Entry → Entry) :
    (s.modEntry n f).tank = s.tank := rfl
@[simp] theorem State.modEntry_out (n : Fin 32) (f : Entry → Entry) :
    (s.modEntry n f).out = s.out := rfl
@[simp] theorem State.modEntry_auth (n : Fin 32) (f : Entry → Entry) :
    (s.modEntry n f).auth = s.auth := rfl
@[simp] theorem State.modEntry_links (n : Fin 32) (f : Entry → Entry) :
    (s.modEntry n f).links = s.links := rfl
@[simp] theorem State.modEntry_store (n : Fin 32) (f : Entry → Entry) :
    (s.modEntry n f).store = s.store := rfl
@[simp] theorem State.modEntry_pending (n : Fin 32) (f : Entry → Entry) :
    (s.modEntry n f).pending = s.pending := rfl
@[simp] theorem State.modEntry_cfg (n : Fin 32) (f : Entry → Entry) (j : Nat) : (s.modEntry n f).cfg j = s.cfg j := rfl
@[simp] theorem State.modEntry_cfgN (n : Fin 32) (f : Entry → Entry) (j : Nat) : (s.modEntry n f).cfgN j = s.cfgN j := rfl

/-! `modSwitch` -/

@[simp] theorem State.modSwitch_ctl (n : Fin 12) (f : SwitchLine → SwitchLine) :
    (s.modSwitch n f).ctl = s.ctl := rfl
@[simp] theorem State.modSwitch_pulse (n : Fin 12) (f : SwitchLine → SwitchLine) :
    (s.modSwitch n f).pulse = s.pulse := rfl
@[simp] theorem State.modSwitch_road (n : Fin 12) (f : SwitchLine → SwitchLine) :
    (s.modSwitch n f).road = s.road := rfl
@[simp] theorem State.modSwitch_analog (n : Fin 12) (f : SwitchLine → SwitchLine) :
    (s.modSwitch n f).analog = s.analog := rfl
@[simp] theorem State.modSwitch_disc (n : Fin 12) (f : SwitchLine → SwitchLine) :
    (s.modSwitch n f).disc = s.disc.set n (f s.disc[n]) := rfl
@[simp] theorem State.modSwitch_ilk (n : Fin 12) (f : SwitchLine → SwitchLine) :
    (s.modSwitch n f).ilk = s.ilk := rfl
@[simp] theorem State.modSwitch_pto (n : Fin 12) (f : SwitchLine → SwitchLine) :
    (s.modSwitch n f).pto = s.pto := rfl
@[simp] theorem State.modSwitch_gov (n : Fin 12) (f : SwitchLine → SwitchLine) :
    (s.modSwitch n f).gov = s.gov := rfl
@[simp] theorem State.modSwitch_pwm (n : Fin 12) (f : SwitchLine → SwitchLine) :
    (s.modSwitch n f).pwm = s.pwm := rfl
@[simp] theorem State.modSwitch_tank (n : Fin 12) (f : SwitchLine → SwitchLine) :
    (s.modSwitch n f).tank = s.tank := rfl
@[simp] theorem State.modSwitch_out (n : Fin 12) (f : SwitchLine → SwitchLine) :
    (s.modSwitch n f).out = s.out := rfl
@[simp] theorem State.modSwitch_auth (n : Fin 12) (f : SwitchLine → SwitchLine) :
    (s.modSwitch n f).auth = s.auth := rfl
@[simp] theorem State.modSwitch_links (n : Fin 12) (f : SwitchLine → SwitchLine) :
    (s.modSwitch n f).links = s.links := rfl
@[simp] theorem State.modSwitch_store (n : Fin 12) (f : SwitchLine → SwitchLine) :
    (s.modSwitch n f).store = s.store := rfl
@[simp] theorem State.modSwitch_pending (n : Fin 12) (f : SwitchLine → SwitchLine) :
    (s.modSwitch n f).pending = s.pending := rfl
@[simp] theorem State.modSwitch_cfg (n : Fin 12) (f : SwitchLine → SwitchLine) (j : Nat) : (s.modSwitch n f).cfg j = s.cfg j := rfl
@[simp] theorem State.modSwitch_cfgN (n : Fin 12) (f : SwitchLine → SwitchLine) (j : Nat) : (s.modSwitch n f).cfgN j = s.cfgN j := rfl

/-! `modProbe` -/

@[simp] theorem State.modProbe_ctl (i : Fin 6) (f : Probe → Probe) :
    (s.modProbe i f).ctl = s.ctl := rfl
@[simp] theorem State.modProbe_pulse (i : Fin 6) (f : Probe → Probe) :
    (s.modProbe i f).pulse = s.pulse := rfl
@[simp] theorem State.modProbe_road (i : Fin 6) (f : Probe → Probe) :
    (s.modProbe i f).road = s.road := rfl
@[simp] theorem State.modProbe_analog (i : Fin 6) (f : Probe → Probe) :
    (s.modProbe i f).analog = s.analog := rfl
@[simp] theorem State.modProbe_disc (i : Fin 6) (f : Probe → Probe) :
    (s.modProbe i f).disc = s.disc := rfl
@[simp] theorem State.modProbe_ilk (i : Fin 6) (f : Probe → Probe) :
    (s.modProbe i f).ilk = s.ilk := rfl
@[simp] theorem State.modProbe_pto (i : Fin 6) (f : Probe → Probe) :
    (s.modProbe i f).pto = s.pto := rfl
@[simp] theorem State.modProbe_gov (i : Fin 6) (f : Probe → Probe) :
    (s.modProbe i f).gov = s.gov := rfl
@[simp] theorem State.modProbe_pwm (i : Fin 6) (f : Probe → Probe) :
    (s.modProbe i f).pwm = s.pwm := rfl
@[simp] theorem State.modProbe_tank (i : Fin 6) (f : Probe → Probe) :
    (s.modProbe i f).tank = { s.tank with probes := s.tank.probes.set i (f s.tank.probes[i]) } := rfl
@[simp] theorem State.modProbe_out (i : Fin 6) (f : Probe → Probe) :
    (s.modProbe i f).out = s.out := rfl
@[simp] theorem State.modProbe_auth (i : Fin 6) (f : Probe → Probe) :
    (s.modProbe i f).auth = s.auth := rfl
@[simp] theorem State.modProbe_links (i : Fin 6) (f : Probe → Probe) :
    (s.modProbe i f).links = s.links := rfl
@[simp] theorem State.modProbe_store (i : Fin 6) (f : Probe → Probe) :
    (s.modProbe i f).store = s.store := rfl
@[simp] theorem State.modProbe_pending (i : Fin 6) (f : Probe → Probe) :
    (s.modProbe i f).pending = s.pending := rfl
@[simp] theorem State.modProbe_cfg (i : Fin 6) (f : Probe → Probe) (j : Nat) : (s.modProbe i f).cfg j = s.cfg j := rfl
@[simp] theorem State.modProbe_cfgN (i : Fin 6) (f : Probe → Probe) (j : Nat) : (s.modProbe i f).cfgN j = s.cfgN j := rfl

/-! `modPort` -/

@[simp] theorem State.modPort_ctl (p : Port) (f : PortRecord → PortRecord) : (s.modPort p f).ctl = s.ctl := rfl
@[simp] theorem State.modPort_pulse (p : Port) (f : PortRecord → PortRecord) : (s.modPort p f).pulse = s.pulse := rfl
@[simp] theorem State.modPort_road (p : Port) (f : PortRecord → PortRecord) : (s.modPort p f).road = s.road := rfl
@[simp] theorem State.modPort_analog (p : Port) (f : PortRecord → PortRecord) : (s.modPort p f).analog = s.analog := rfl
@[simp] theorem State.modPort_disc (p : Port) (f : PortRecord → PortRecord) : (s.modPort p f).disc = s.disc := rfl
@[simp] theorem State.modPort_ilk (p : Port) (f : PortRecord → PortRecord) : (s.modPort p f).ilk = s.ilk := rfl
@[simp] theorem State.modPort_pto (p : Port) (f : PortRecord → PortRecord) : (s.modPort p f).pto = s.pto := rfl
@[simp] theorem State.modPort_gov (p : Port) (f : PortRecord → PortRecord) : (s.modPort p f).gov = s.gov := rfl
@[simp] theorem State.modPort_pwm (p : Port) (f : PortRecord → PortRecord) : (s.modPort p f).pwm = s.pwm := rfl
@[simp] theorem State.modPort_tank (p : Port) (f : PortRecord → PortRecord) : (s.modPort p f).tank = s.tank := rfl
@[simp] theorem State.modPort_out (p : Port) (f : PortRecord → PortRecord) : (s.modPort p f).out = s.out := rfl
@[simp] theorem State.modPort_auth (p : Port) (f : PortRecord → PortRecord) : (s.modPort p f).auth = s.auth := rfl
@[simp] theorem State.modPort_store (p : Port) (f : PortRecord → PortRecord) : (s.modPort p f).store = s.store := rfl
@[simp] theorem State.modPort_pending (p : Port) (f : PortRecord → PortRecord) : (s.modPort p f).pending = s.pending := rfl
@[simp] theorem State.modPort_cfg (p : Port) (f : PortRecord → PortRecord) (j : Nat) : (s.modPort p f).cfg j = s.cfg j := rfl
@[simp] theorem State.modPort_cfgN (p : Port) (f : PortRecord → PortRecord) (j : Nat) : (s.modPort p f).cfgN j = s.cfgN j := rfl

/-! `modPeriod` -/

@[simp] theorem State.modPeriod_ctl (ch : PeriodCh) (f : PeriodChannel → PeriodChannel) : (s.modPeriod ch f).ctl = s.ctl := rfl
@[simp] theorem State.modPeriod_road (ch : PeriodCh) (f : PeriodChannel → PeriodChannel) : (s.modPeriod ch f).road = s.road := rfl
@[simp] theorem State.modPeriod_analog (ch : PeriodCh) (f : PeriodChannel → PeriodChannel) : (s.modPeriod ch f).analog = s.analog := rfl
@[simp] theorem State.modPeriod_disc (ch : PeriodCh) (f : PeriodChannel → PeriodChannel) : (s.modPeriod ch f).disc = s.disc := rfl
@[simp] theorem State.modPeriod_ilk (ch : PeriodCh) (f : PeriodChannel → PeriodChannel) : (s.modPeriod ch f).ilk = s.ilk := rfl
@[simp] theorem State.modPeriod_pto (ch : PeriodCh) (f : PeriodChannel → PeriodChannel) : (s.modPeriod ch f).pto = s.pto := rfl
@[simp] theorem State.modPeriod_gov (ch : PeriodCh) (f : PeriodChannel → PeriodChannel) : (s.modPeriod ch f).gov = s.gov := rfl
@[simp] theorem State.modPeriod_pwm (ch : PeriodCh) (f : PeriodChannel → PeriodChannel) : (s.modPeriod ch f).pwm = s.pwm := rfl
@[simp] theorem State.modPeriod_tank (ch : PeriodCh) (f : PeriodChannel → PeriodChannel) : (s.modPeriod ch f).tank = s.tank := rfl
@[simp] theorem State.modPeriod_out (ch : PeriodCh) (f : PeriodChannel → PeriodChannel) : (s.modPeriod ch f).out = s.out := rfl
@[simp] theorem State.modPeriod_auth (ch : PeriodCh) (f : PeriodChannel → PeriodChannel) : (s.modPeriod ch f).auth = s.auth := rfl
@[simp] theorem State.modPeriod_links (ch : PeriodCh) (f : PeriodChannel → PeriodChannel) : (s.modPeriod ch f).links = s.links := rfl
@[simp] theorem State.modPeriod_store (ch : PeriodCh) (f : PeriodChannel → PeriodChannel) : (s.modPeriod ch f).store = s.store := rfl
@[simp] theorem State.modPeriod_pending (ch : PeriodCh) (f : PeriodChannel → PeriodChannel) : (s.modPeriod ch f).pending = s.pending := rfl
@[simp] theorem State.modPeriod_cfg (ch : PeriodCh) (f : PeriodChannel → PeriodChannel) (j : Nat) : (s.modPeriod ch f).cfg j = s.cfg j := rfl
@[simp] theorem State.modPeriod_cfgN (ch : PeriodCh) (f : PeriodChannel → PeriodChannel) (j : Nat) : (s.modPeriod ch f).cfgN j = s.cfgN j := rfl

/-! `modTankOf` -/

@[simp] theorem State.modTankOf_ctl (t : TankId) (f : Tank → Tank) : (s.modTankOf t f).ctl = s.ctl := rfl
@[simp] theorem State.modTankOf_pulse (t : TankId) (f : Tank → Tank) : (s.modTankOf t f).pulse = s.pulse := rfl
@[simp] theorem State.modTankOf_road (t : TankId) (f : Tank → Tank) : (s.modTankOf t f).road = s.road := rfl
@[simp] theorem State.modTankOf_analog (t : TankId) (f : Tank → Tank) : (s.modTankOf t f).analog = s.analog := rfl
@[simp] theorem State.modTankOf_disc (t : TankId) (f : Tank → Tank) : (s.modTankOf t f).disc = s.disc := rfl
@[simp] theorem State.modTankOf_ilk (t : TankId) (f : Tank → Tank) : (s.modTankOf t f).ilk = s.ilk := rfl
@[simp] theorem State.modTankOf_pto (t : TankId) (f : Tank → Tank) : (s.modTankOf t f).pto = s.pto := rfl
@[simp] theorem State.modTankOf_gov (t : TankId) (f : Tank → Tank) : (s.modTankOf t f).gov = s.gov := rfl
@[simp] theorem State.modTankOf_pwm (t : TankId) (f : Tank → Tank) : (s.modTankOf t f).pwm = s.pwm := rfl
@[simp] theorem State.modTankOf_out (t : TankId) (f : Tank → Tank) : (s.modTankOf t f).out = s.out := rfl
@[simp] theorem State.modTankOf_auth (t : TankId) (f : Tank → Tank) : (s.modTankOf t f).auth = s.auth := rfl
@[simp] theorem State.modTankOf_links (t : TankId) (f : Tank → Tank) : (s.modTankOf t f).links = s.links := rfl
@[simp] theorem State.modTankOf_store (t : TankId) (f : Tank → Tank) : (s.modTankOf t f).store = s.store := rfl
@[simp] theorem State.modTankOf_pending (t : TankId) (f : Tank → Tank) : (s.modTankOf t f).pending = s.pending := rfl
@[simp] theorem State.modTankOf_cfg (t : TankId) (f : Tank → Tank) (j : Nat) : (s.modTankOf t f).cfg j = s.cfg j := rfl
@[simp] theorem State.modTankOf_cfgN (t : TankId) (f : Tank → Tank) (j : Nat) : (s.modTankOf t f).cfgN j = s.cfgN j := rfl

/-! Reading back what an update by name has written. -/

@[simp] theorem State.modPort_port_self (p : Port) (f : PortRecord → PortRecord) :
    (s.modPort p f).port p = f (s.port p) := by cases p <;> rfl

@[simp] theorem State.modPort_port_other {p q : Port} (h : q ≠ p) (f : PortRecord → PortRecord) :
    (s.modPort p f).port q = s.port q := by cases p <;> cases q <;> first | rfl | exact absurd rfl h

@[simp] theorem State.modPeriod_period_self (ch : PeriodCh) (f : PeriodChannel → PeriodChannel) :
    (s.modPeriod ch f).period ch = f (s.period ch) := by cases ch <;> rfl

@[simp] theorem State.modPeriod_period_other {ch k : PeriodCh} (h : k ≠ ch)
    (f : PeriodChannel → PeriodChannel) : (s.modPeriod ch f).period k = s.period k := by
  cases ch <;> cases k <;> first | rfl | exact absurd rfl h

@[simp] theorem State.modTankOf_tankOf_self (t : TankId) (f : Tank → Tank) :
    (s.modTankOf t f).tankOf t = f (s.tankOf t) := by cases t <;> rfl

@[simp] theorem State.modTankOf_tankOf_other {t k : TankId} (h : k ≠ t) (f : Tank → Tank) :
    (s.modTankOf t f).tankOf k = s.tankOf k := by
  cases t <;> cases k <;> first | rfl | exact absurd rfl h

@[simp] theorem State.modLine_line_self (n : Fin 10) (f : OutputLine → OutputLine) :
    (s.modLine n f).out.lines[n] = f s.out.lines[n] := by simp

@[simp] theorem State.modLine_line_other {n m : Fin 10} (h : m ≠ n) (f : OutputLine → OutputLine) :
    (s.modLine n f).out.lines[m] = s.out.lines[m] := by
  simp [Fin.val_ne_of_ne h.symm]

@[simp] theorem State.modEntry_entry_self (n : Fin 32) (f : Entry → Entry) :
    (s.modEntry n f).ilk.entries[n] = f s.ilk.entries[n] := by simp

@[simp] theorem State.modEntry_entry_other {n m : Fin 32} (h : m ≠ n) (f : Entry → Entry) :
    (s.modEntry n f).ilk.entries[m] = s.ilk.entries[m] := by
  simp [Fin.val_ne_of_ne h.symm]

end Sys2Proof.Machine
end

