-- ==== Sys2Proof/Laws/Lines.lean ====
section
/-! SUPPORT. What the shared operations over one output line can do: each changes its own line and nothing
else, and only in the fields its rule names. -/

namespace Sys2Proof.Machine

/-- Writing a line back as it stands is no change. -/
theorem State.modLine_const_self (n : Fin 10) (s : State) : (s.modLine n fun _ => s.out.lines[n]) = s := by
  simp [State.modLine, State.modOut]

/-- Two updates of a line make one. -/
theorem State.modLine_modLine (n : Fin 10) (f g : OutputLine → OutputLine) (s : State) :
    (s.modLine n f).modLine n g = s.modLine n fun l => g (f l) := by
  simp [State.modLine, State.modOut]

/-- A constant update of a line discards the update before it. -/
theorem State.modLine_then_const (n : Fin 10) (f : OutputLine → OutputLine) (x : OutputLine) (s : State) :
    ((s.modLine n f).modLine n fun _ => x) = s.modLine n fun _ => x := State.modLine_modLine n f _ s

/-- `t` is `s` but for line `n`. -/
def LineOnly (n : Fin 10) (s t : State) : Prop := t = s.modLine n fun _ => t.out.lines[n]

theorem LineOnly.refl (n : Fin 10) (s : State) : LineOnly n s s := (State.modLine_const_self n s).symm

theorem LineOnly.of_modLine (n : Fin 10) (f : OutputLine → OutputLine) (s : State) :
    LineOnly n s (s.modLine n f) := by
  simp [LineOnly, State.modLine, State.modOut]

theorem LineOnly.trans {n : Fin 10} {s t u : State} (h : LineOnly n s t) (k : LineOnly n t u) :
    LineOnly n s u := by
  unfold LineOnly at *
  rw [k, h]
  simp [State.modLine, State.modOut]

/-- An operation that changes one line leaves the others. -/
theorem LineOnly.other {n m : Fin 10} {s t : State} (h : LineOnly n s t) (hm : m ≠ n) :
    t.out.lines[m] = s.out.lines[m] := by
  rw [h]; exact State.modLine_line_other s hm _

theorem LineOnly.hold {n : Fin 10} {s t : State} (h : LineOnly n s t) : t.out.hold = s.out.hold := by
  rw [h]; simp

/-- A blank changes its line alone. -/
theorem startBlank_lineOnly (n : Fin 10) (s : State) : LineOnly n s (startBlank n s) := by
  unfold startBlank
  split
  · exact .refl n s
  · exact .of_modLine n _ s

/-- What a change of level begins changes its line alone. -/
theorem levelChanged_lineOnly (n : Fin 10) (s : State) : LineOnly n s (levelChanged n s) := by
  unfold levelChanged
  split
  · exact startBlank_lineOnly n s
  · split
    · exact .of_modLine n _ s
    · exact .refl n s

/-- Driving a line changes it alone. -/
theorem drive_lineOnly (n : Fin 10) (s : State) : LineOnly n s (drive n s) := by
  unfold drive
  simp only
  split
  · exact .refl n s
  · exact (LineOnly.of_modLine n _ s).trans (levelChanged_lineOnly n _)

/-- A retry's beginning changes its line alone. -/
theorem beginRetry_lineOnly (n : Fin 10) (s : State) : LineOnly n s (beginRetry n s) := by
  unfold beginRetry
  split
  · exact (LineOnly.of_modLine n _ s).trans (drive_lineOnly n _)
  · exact .refl n s

/-- A command changes its line alone. -/
theorem command_lineOnly (n : Fin 10) (on : Bool) (s : State) : LineOnly n s (command n on s) := by
  unfold command
  split
  · exact .refl n s
  · exact (LineOnly.of_modLine n _ s).trans ((drive_lineOnly n _).trans (beginRetry_lineOnly n _))

/-- What a change of level begins leaves the commanded level, the effective level and the retry as they are. -/
theorem levelChanged_line (n : Fin 10) (s : State) :
    (levelChanged n s).out.lines[n] = { s.out.lines[n] with
      diag := (levelChanged n s).out.lines[n].diag
      mismatch := (levelChanged n s).out.lines[n].mismatch
      blank := (levelChanged n s).out.lines[n].blank
      blankPending := (levelChanged n s).out.lines[n].blankPending } := by
  unfold levelChanged startBlank
  split
  · split
    · rfl
    · simp [State.modLine, State.modOut]
  · split
    · simp [State.modLine, State.modOut]
    · rfl

/-- Driving a line leaves its commanded level. -/
theorem drive_commanded (n : Fin 10) (s : State) :
    (drive n s).out.lines[n].commanded = s.out.lines[n].commanded := by
  unfold drive
  simp only
  split
  · rfl
  · rw [levelChanged_line]; simp [State.modLine, State.modOut]

/-- A line that has been driven stands at the level that R129 gave it. -/
theorem drive_effective (n : Fin 10) (s : State) :
    (drive n s).out.lines[n].effective = targetLevel s n := by
  unfold drive
  simp only
  split
  · assumption
  · rw [levelChanged_line]; simp [State.modLine, State.modOut]

/-- A command takes the level it is given. -/
theorem command_commanded (n : Fin 10) (on : Bool) (s : State) :
    (command n on s).out.lines[n].commanded = on := by
  unfold command
  split
  · assumption
  · have h : ∀ u : State, (beginRetry n u).out.lines[n].commanded = u.out.lines[n].commanded := by
      intro u
      unfold beginRetry
      split
      · rw [drive_commanded]; simp [State.modLine, State.modOut]
      · rfl
    rw [h, drive_commanded]
    cases on
    · simp [State.modLine, State.modOut, OutputLine.endRetry]
      split <;> split <;> rfl
    · simp [State.modLine, State.modOut]

/-- A command of another line leaves this line's command. -/
theorem command_other {n m : Fin 10} (h : m ≠ n) (on : Bool) (s : State) :
    (command n on s).out.lines[m] = s.out.lines[m] := (command_lineOnly n on s).other h

end Sys2Proof.Machine
end

