-- ==== Sys2Proof/Laws/Reports.lean ====
section
/-! SUPPORT. What placing a report can do: the two queues and their attention lines take it, by R156, and
nothing else moves. And what the characters of a reply are. -/

namespace Sys2Proof.Machine

section fields

variable (k : ReportKey) (c : Record) (s : State)

@[simp] theorem post_ctl : (post k c s).ctl = s.ctl := rfl
@[simp] theorem post_pulse : (post k c s).pulse = s.pulse := rfl
@[simp] theorem post_road : (post k c s).road = s.road := rfl
@[simp] theorem post_analog : (post k c s).analog = s.analog := rfl
@[simp] theorem post_disc : (post k c s).disc = s.disc := rfl
@[simp] theorem post_ilk : (post k c s).ilk = s.ilk := rfl
@[simp] theorem post_pto : (post k c s).pto = s.pto := rfl
@[simp] theorem post_gov : (post k c s).gov = s.gov := rfl
@[simp] theorem post_pwm : (post k c s).pwm = s.pwm := rfl
@[simp] theorem post_tank : (post k c s).tank = s.tank := rfl
@[simp] theorem post_out : (post k c s).out = s.out := rfl
@[simp] theorem post_auth : (post k c s).auth = s.auth := rfl
@[simp] theorem post_store : (post k c s).store = s.store := rfl
@[simp] theorem post_pending : (post k c s).pending = s.pending := rfl
@[simp] theorem post_cfg (i : Nat) : (post k c s).cfg i = s.cfg i := rfl
@[simp] theorem post_cfgN (i : Nat) : (post k c s).cfgN i = s.cfgN i := rfl

@[simp] theorem raise_ctl : (raise k s).ctl = s.ctl := rfl
@[simp] theorem raise_pulse : (raise k s).pulse = s.pulse := rfl
@[simp] theorem raise_road : (raise k s).road = s.road := rfl
@[simp] theorem raise_analog : (raise k s).analog = s.analog := rfl
@[simp] theorem raise_disc : (raise k s).disc = s.disc := rfl
@[simp] theorem raise_ilk : (raise k s).ilk = s.ilk := rfl
@[simp] theorem raise_pto : (raise k s).pto = s.pto := rfl
@[simp] theorem raise_gov : (raise k s).gov = s.gov := rfl
@[simp] theorem raise_pwm : (raise k s).pwm = s.pwm := rfl
@[simp] theorem raise_tank : (raise k s).tank = s.tank := rfl
@[simp] theorem raise_out : (raise k s).out = s.out := rfl
@[simp] theorem raise_auth : (raise k s).auth = s.auth := rfl
@[simp] theorem raise_store : (raise k s).store = s.store := rfl
@[simp] theorem raise_pending : (raise k s).pending = s.pending := rfl
@[simp] theorem raise_cfg (i : Nat) : (raise k s).cfg i = s.cfg i := rfl
@[simp] theorem raise_cfgN (i : Nat) : (raise k s).cfgN i = s.cfgN i := rfl

/-- Both ports take a report. -/
theorem post_port (p : Port) : (post k c s).port p = postPort k c (s.port p) := by cases p <;> rfl

end fields

/-- The keys of a queue that takes a report: as they were, or with the new key at the end. -/
theorem enqueue_keys (k : ReportKey) (c : Record) (q : List ReportEntry) :
    (enqueue k c q).map (·.key) = if k ∈ q.map (·.key) then q.map (·.key) else q.map (·.key) ++ [k] := by
  unfold enqueue
  have h : q.any (fun e => e.key == k) = true ↔ k ∈ q.map (·.key) := by simp
  by_cases hk : k ∈ q.map (·.key)
  · rw [if_pos (h.2 hk), if_pos hk, List.map_map]
    refine List.map_congr_left fun e _ => ?_
    by_cases he : e.key = k <;> simp [he]
  · rw [if_neg (fun g => hk (h.1 g)), if_neg hk]
    simp

/-- A queue keeps at most one entry per key (R156). -/
theorem enqueue_nodup (k : ReportKey) (c : Record) (q : List ReportEntry) (h : (q.map (·.key)).Nodup) :
    ((enqueue k c q).map (·.key)).Nodup := by
  rw [enqueue_keys]
  split
  · exact h
  · rename_i hk
    exact List.nodup_append.2 ⟨h, by simp, fun a ha b hb e => hk (by simp at hb; exact hb ▸ e ▸ ha)⟩

/-- The report that was placed stands in the queue, uncarried. -/
theorem mem_enqueue (k : ReportKey) (c : Record) (q : List ReportEntry) : ⟨k, c, false⟩ ∈ enqueue k c q := by
  unfold enqueue
  split
  · rename_i h
    obtain ⟨e, he, hk⟩ := List.any_eq_true.1 h
    have hk' : e.key = k := by simpa using hk
    exact List.mem_map.2 ⟨e, he, by simp [hk']⟩
  · simp

/-- Entries under other keys stand. -/
theorem mem_enqueue_other (k : ReportKey) (c : Record) (q : List ReportEntry) (e : ReportEntry)
    (h : e.key ≠ k) : e ∈ enqueue k c q ↔ e ∈ q := by
  unfold enqueue
  split
  · constructor
    · intro he
      obtain ⟨x, hx, rfl⟩ := List.mem_map.1 he
      by_cases hk : x.key = k
      · exact absurd (by simp [hk]) h
      · simpa [hk] using hx
    · intro he
      exact List.mem_map.2 ⟨e, he, by simp [h]⟩
  · simp only [List.mem_append, List.mem_singleton]
    exact ⟨fun he => he.elim id fun g => absurd (by rw [g]) h, Or.inl⟩

/-- A queue that takes a report is not empty. -/
theorem enqueue_ne_nil (k : ReportKey) (c : Record) (q : List ReportEntry) : enqueue k c q ≠ [] :=
  List.ne_nil_of_mem (mem_enqueue k c q)

/-- A reply of `d` characters of data is sent as `7 + d` characters (table 10.2). -/
@[simp] theorem Reply.chars_length (r : Reply) : r.chars.length = 7 + r.data.length := by
  simp only [Reply.chars, Reply.covered, halfBytes, List.length_cons, List.length_map, List.length_append,
    List.length_nil]
  omega

/-- Of the characters of a reply the first, address 0, is marked, and no other is (R153, R159). -/
theorem Reply.chars_marks (r : Reply) :
    r.chars.head? = some ⟨0, true⟩ ∧ ∀ c ∈ r.chars.tail, c.mark = false := by
  refine ⟨rfl, fun c hc => ?_⟩
  obtain ⟨_, _, rfl⟩ := List.mem_map.1 hc
  rfl

end Sys2Proof.Machine
end

