-- ==== Sys2Proof/Laws/Reacted.lean ====
section
/-! SUPPORT. What the blocks do in answer to one another: each shared operation leaves everything that
`Reacted` names as it was. -/

namespace Sys2Proof.Machine

theorem PortKept.trans {p q r : PortRecord} (h : PortKept p q) (k : PortKept q r) : PortKept p r := by
  unfold PortKept at *
  rw [← h, ← k]

theorem Reacted.refl (s : State) : Reacted s s :=
  ⟨rfl, rfl, rfl, rfl, rfl, rfl, rfl, rfl, rfl, rfl, rfl, rfl, rfl, rfl, rfl, rfl, rfl, rfl, rfl⟩

theorem Reacted.trans {s t u : State} (h : Reacted s t) (k : Reacted t u) : Reacted s u := by
  obtain ⟨h1, h2, h3, h4, h5, h6, h7, h8, h9, h10, h11, h12, h13, h14, h15, h16, h17, h18, h19⟩ := h
  obtain ⟨k1, k2, k3, k4, k5, k6, k7, k8, k9, k10, k11, k12, k13, k14, k15, k16, k17, k18, k19⟩ := k
  refine ⟨k1.trans h1, ?_, ?_, k4.trans h4, k5.trans h5, k6.trans h6, k7.trans h7, k8.trans h8,
    k9.trans h9, k10.trans h10, k11.trans h11, k12.trans h12, k13.trans h13, k14.trans h14,
    k15.trans h15, k16.trans h16, ?_, h18.trans k18, h19.trans k19⟩
  · rw [← k2] at h2; exact h2
  · rw [← k3] at h3; exact h3
  · rw [← k17] at h17; exact h17

/-- An update of the interlock unit, the PTO, the governor or the output unit. -/
theorem Reacted.modIlk (f : Interlock → Interlock) (s : State) : Reacted s (s.modIlk f) := .refl s
theorem Reacted.modPto (f : Pto → Pto) (s : State) : Reacted s (s.modPto f) := .refl s
theorem Reacted.modGov (f : Governor → Governor) (s : State) : Reacted s (s.modGov f) := .refl s
theorem Reacted.modOut (f : Outputs → Outputs) (s : State) : Reacted s (s.modOut f) := .refl s
theorem Reacted.modLine (n : Fin 10) (f : OutputLine → OutputLine) (s : State) :
    Reacted s (s.modLine n f) := .refl s
theorem Reacted.modEntry (n : Fin 32) (f : Entry → Entry) (s : State) : Reacted s (s.modEntry n f) := .refl s

theorem Reacted.of_lineOnly {n : Fin 10} {s t : State} (h : LineOnly n s t) : Reacted s t := by
  rw [h]; exact .modLine n _ s

/-- A report leaves all but the queues. -/
theorem post_reacted (k : ReportKey) (c : Record) (s : State) : Reacted s (post k c s) := .refl s
theorem raise_reacted (k : ReportKey) (s : State) : Reacted s (raise k s) := .refl s
theorem drive_reacted (n : Fin 10) (s : State) : Reacted s (drive n s) := .of_lineOnly (drive_lineOnly n s)
theorem beginRetry_reacted (n : Fin 10) (s : State) : Reacted s (beginRetry n s) :=
  .of_lineOnly (beginRetry_lineOnly n s)
theorem command_reacted (n : Fin 10) (on : Bool) (s : State) : Reacted s (command n on s) :=
  .of_lineOnly (command_lineOnly n on s)

/-- Operations taken one after another over a list. -/
theorem Reacted.foldl {α : Type} (f : State → α → State) (hf : ∀ s a, Reacted s (f s a)) :
    ∀ (l : List α) (s : State), Reacted s (l.foldl f s)
  | [], s => .refl s
  | a :: l, s => (hf s a).trans (Reacted.foldl f hf l (f s a))

theorem setDuty_reacted (s : State) : Reacted s (setDuty s) := .refl s

theorem rejudgeBounds_reacted (s : State) : Reacted s (rejudgeBounds s) := by
  unfold rejudgeBounds
  split
  · exact .refl s
  · exact .refl s
  · dsimp only
    split <;> split <;> exact .refl s

theorem interlockLines_reacted (s : State) : Reacted s (interlockLines s) :=
  (command_reacted _ _ s).trans (command_reacted _ _ _)

theorem alarmJudge_reacted (s : State) : Reacted s (alarmJudge s) := by
  unfold alarmJudge
  split
  · exact (Reacted.modIlk _ s).trans (command_reacted _ _ _)
  · exact (Reacted.modIlk _ s).trans (command_reacted _ _ _)
  · exact .refl s

theorem listChanged_reacted (before : ActionSet) (s : State) : Reacted s (listChanged before s) := by
  have h := (interlockLines_reacted s).trans (alarmJudge_reacted _)
  unfold listChanged
  dsimp only
  split
  · exact h
  · exact h.trans (rejudgeBounds_reacted _)

theorem join_reacted (n : Fin 32) (s : State) : Reacted s (join n s) := by
  unfold join
  dsimp only
  have h : ∀ b, Reacted s (listChanged b (raise (.lockout n)
      ((s.modEntry n fun _ => ⟨.active, none, false⟩).modIlk fun k =>
        { k with active := k.active ++ [n] }))) := fun b =>
    (Reacted.modEntry n _ s).trans ((Reacted.modIlk _ _).trans
      ((raise_reacted _ _).trans (listChanged_reacted b _)))
  split
  · exact (h _).trans (.modIlk _ _)
  · exact h _

theorem freshWindow_reacted (v : Int) (s : State) : Reacted s (freshWindow v s) := .refl s

theorem reconJudge_reacted (arrival : Bool) (s : State) : Reacted s (reconJudge arrival s) := by
  unfold reconJudge
  split <;> exact .refl s

theorem setFill_reacted (on : Bool) (s : State) : Reacted s (setFill on s) := by
  unfold setFill
  split
  · exact .refl s
  · dsimp only
    split
    · exact (command_reacted _ _ s).trans ((freshWindow_reacted _ _).trans (reconJudge_reacted _ _))
    · refine (command_reacted fillValve on s).trans (Reacted.trans ?_ (reconJudge_reacted _ _))
      exact .refl _

theorem fillJudgeOn_reacted (v : Int) (s : State) : Reacted s (fillJudgeOn v s) := by
  have h : ∀ u : State, Reacted u (u.modTank fun m => { m with fillMode := .off }) := fun u => .refl u
  have k : ∀ (u : State) (on : Bool), Reacted s u → Reacted s (setFill on u) := fun u on hu =>
    hu.trans (setFill_reacted on u)
  unfold fillJudgeOn
  dsimp only
  split <;> split
  · exact (k _ _ (h s)).trans (raise_reacted _ _)
  · exact k _ _ (h s)
  · exact (k _ _ (.refl s)).trans (raise_reacted _ _)
  · exact k _ _ (.refl s)

theorem fillJudge_reacted (s : State) : Reacted s (fillJudge s) := fillJudgeOn_reacted _ s

theorem primerEnd_reacted (o : PrimerOutcome) (s : State) : Reacted s (primerEnd o s) := by
  have h : Reacted s (s.modTank fun m => { m with
    priming := false, outcome := o, runTimer := none, primeTimer := none }) := .refl s
  unfold primerEnd
  split
  · exact h.trans ((command_reacted _ _ _).trans (raise_reacted _ _))
  · exact .refl s

theorem releaseLines_reacted (s : State) : Reacted s (releaseLines s) := by
  unfold releaseLines
  dsimp only
  refine Reacted.trans ?_ (Reacted.foldl _ (fun s n => beginRetry_reacted n s) _ _)
  refine Reacted.trans ?_ (Reacted.foldl _ (fun s n => drive_reacted n s) _ _)
  refine Reacted.trans ?_ (Reacted.modOut _ _)
  exact Reacted.foldl _ (fun s n => .modLine n _ s) _ _

theorem latchLine_reacted (n : Fin 10) (s : State) : Reacted s (latchLine n s) := .modLine n _ s

theorem holdLines_reacted (s : State) : Reacted s (holdLines s) := by
  unfold holdLines
  dsimp only
  refine Reacted.trans ?_ (Reacted.foldl _ (fun s n => drive_reacted n s) _ _)
  refine Reacted.trans ?_ (Reacted.modOut _ _)
  exact Reacted.foldl _ (fun s n => latchLine_reacted n s) _ _

theorem holdBegin_reacted (s : State) : Reacted s (holdBegin s) := by
  unfold holdBegin
  dsimp only
  have h : ∀ u : State, Reacted u (u.modTank fun m => { m with fillWindow := none }) := fun u => .refl u
  refine Reacted.trans ?_ (fillJudge_reacted _)
  refine Reacted.trans ?_ (h _)
  refine Reacted.trans ?_ (primerEnd_reacted _ _)
  exact (holdLines_reacted s).trans (setDuty_reacted _)

theorem holdEnd_reacted (s : State) : Reacted s (holdEnd s) := by
  unfold holdEnd
  dsimp only
  have h : Reacted s (fillJudge (setDuty (releaseLines s))) := by
    refine Reacted.trans ?_ (fillJudge_reacted _)
    exact (releaseLines_reacted s).trans (setDuty_reacted _)
  split
  · exact h.trans (freshWindow_reacted _ _)
  · exact h

theorem leave_reacted (n : Fin 32) (s : State) : Reacted s (leave n s) := by
  unfold leave
  dsimp only
  have h : ∀ b, Reacted s (listChanged b (raise (.lockout n)
      ((s.modEntry n fun _ => ⟨.clear, none, false⟩).modIlk fun k =>
        { k with active := k.active.filter (fun m => m != n) }))) := fun b =>
    (Reacted.modEntry n _ s).trans ((Reacted.modIlk _ _).trans
      ((raise_reacted _ _).trans (listChanged_reacted b _)))
  split
  · exact (h _).trans (holdEnd_reacted _)
  · exact h _

theorem judge_reacted (n : Fin 32) (s : State) : Reacted s (judge n s) := by
  unfold judge
  split
  · split
    · exact join_reacted n s
    · exact .modEntry n _ s
  · exact .modEntry n _ s
  · split
    · exact .refl s
    · exact leave_reacted n s
  · exact .refl s
  · exact .refl s

theorem judgeAll_reacted (s : State) : Reacted s (judgeAll s) := by
  unfold judgeAll
  exact Reacted.foldl _ (fun s n => judge_reacted n s) _ _

theorem pumpReadyJudge_reacted (s : State) : Reacted s (pumpReadyJudge s) := command_reacted _ _ s

theorem setMode_reacted (m : Mode) (s : State) : Reacted s (setMode m s) := by
  have h : ∀ u : State, Reacted s u →
      Reacted s (pumpReadyJudge (rejudgeBounds (raise .mode (interlockLines (judgeAll u))))) := by
    intro u hu
    refine Reacted.trans ?_ (pumpReadyJudge_reacted _)
    refine Reacted.trans ?_ (rejudgeBounds_reacted _)
    refine Reacted.trans ?_ (raise_reacted _ _)
    refine Reacted.trans ?_ (interlockLines_reacted _)
    exact hu.trans (judgeAll_reacted u)
  unfold setMode
  dsimp only
  split
  · exact h _ (.refl s)
  · exact h _ (.modIlk _ s)

theorem modeJudge_reacted (s : State) : Reacted s (modeJudge s) := by
  unfold modeJudge
  split
  · split
    · exact setMode_reacted _ s
    · exact .refl s
  · split
    · exact setMode_reacted _ s
    · exact .refl s
  · split
    · exact setMode_reacted _ s
    · exact .refl s
  · exact .refl s

theorem modeOnPto_reacted (s : State) : Reacted s (modeOnPto s) := by
  unfold modeOnPto
  split
  · exact .refl s
  · exact setMode_reacted _ s
  · exact setMode_reacted _ s
  · exact setMode_reacted _ s
  · exact setMode_reacted _ s
  · exact setMode_reacted _ s
  · exact modeJudge_reacted s
  · exact modeJudge_reacted s
  · exact .refl s

theorem interlockOnPto_reacted (prev : PtoState) (s : State) : Reacted s (interlockOnPto prev s) := by
  have k : ∀ u : State, Reacted u (judge 3 (judge 2 (judge 1 u))) := fun u =>
    (judge_reacted 1 u).trans ((judge_reacted 2 _).trans (judge_reacted 3 _))
  unfold interlockOnPto
  dsimp only
  split
  · exact k s
  · exact (modeOnPto_reacted s).trans (k _)

theorem transfer_reacted (s : State) : Reacted s (transfer s) := by
  unfold transfer
  dsimp only
  split <;> exact .refl s

theorem departOff_reacted (s : State) : Reacted s (departOff s) := by
  unfold departOff
  dsimp only
  refine Reacted.trans ?_ (raise_reacted _ _)
  refine Reacted.trans ?_ (setDuty_reacted _)
  exact (transfer_reacted s).trans (.modGov _ _)

theorem governorOnPto_reacted (prev : PtoState) (s : State) : Reacted s (governorOnPto prev s) := by
  unfold governorOnPto
  split
  · split
    · exact departOff_reacted s
    · exact .refl s
  · split
    · exact departOff_reacted s
    · split <;> exact .refl s
  · split <;> exact .refl s
  · split <;> exact .refl s
  · exact .refl s
  · exact .refl s

theorem governorForceIdle_reacted (s : State) : Reacted s (governorForceIdle s) := by
  unfold governorForceIdle
  split
  · exact .refl s
  · dsimp only
    refine Reacted.trans ?_ (rejudgeBounds_reacted _)
    split <;> exact .refl s

theorem tankOnPto_reacted (prev : PtoState) (s : State) : Reacted s (tankOnPto prev s) := by
  unfold tankOnPto
  dsimp only
  refine Reacted.trans ?_ (reconJudge_reacted _ _)
  split
  · exact .refl s
  · exact (command_reacted _ _ s).trans (primerEnd_reacted _ _)

theorem pulseOnPto_reacted (prev : PtoState) (s : State) : Reacted s (pulseOnPto prev s) := by
  unfold pulseOnPto
  split <;> exact .refl s

theorem arbiterOnPto_reacted (s : State) : Reacted s (arbiterOnPto s) := by
  unfold arbiterOnPto
  split
  · exact .refl s
  · exact .refl s

/-- A publication of the PTO state reaches its readers and leaves all that they do not own. -/
theorem ptoPublish_reacted (prev : PtoState) (s : State) : Reacted s (ptoPublish prev s) := by
  unfold ptoPublish
  dsimp only
  refine Reacted.trans ?_ (arbiterOnPto_reacted _)
  refine Reacted.trans ?_ (pulseOnPto_reacted _ _)
  refine Reacted.trans ?_ (tankOnPto_reacted _ _)
  refine Reacted.trans ?_ (pumpReadyJudge_reacted _)
  refine Reacted.trans ?_ (governorOnPto_reacted _ _)
  exact (raise_reacted _ s).trans (interlockOnPto_reacted _ _)

theorem enterDisengaged_reacted (cause : Option AbandonCause) (s : State) :
    Reacted s (enterDisengaged cause s) := by
  unfold enterDisengaged
  refine Reacted.trans ?_ (ptoPublish_reacted _ _)
  exact (Reacted.modPto _ s).trans (command_reacted _ _ _)

theorem enterFault_reacted (r : FaultReason) (s : State) : Reacted s (enterFault r s) := by
  unfold enterFault
  refine Reacted.trans ?_ (ptoPublish_reacted _ _)
  exact (Reacted.modPto _ s).trans (command_reacted _ _ _)

theorem enterEngaged_reacted (s : State) : Reacted s (enterEngaged s) := by
  unfold enterEngaged
  exact (Reacted.modPto _ s).trans (ptoPublish_reacted _ _)

theorem enterDrop_reacted (s : State) : Reacted s (enterDrop s) := by
  unfold enterDrop
  dsimp only
  have h : ∀ f, Reacted s (ptoPublish s.pto.state (command ptoSol false (s.modPto f))) := fun f =>
    (Reacted.modPto f s).trans ((command_reacted _ _ _).trans (ptoPublish_reacted _ _))
  split
  · exact h _
  · exact (h _).trans (enterDisengaged_reacted _ _)

theorem enterSpinDown_reacted (s : State) : Reacted s (enterSpinDown s) := by
  unfold enterSpinDown
  dsimp only
  have h : ∀ f, Reacted s (ptoPublish s.pto.state (s.modPto f)) := fun f =>
    (Reacted.modPto f s).trans (ptoPublish_reacted _ _)
  split
  · exact (h _).trans (enterDrop_reacted _)
  · exact h _

theorem judgeConfirm_reacted (s : State) : Reacted s (judgeConfirm s) := by
  unfold judgeConfirm
  split
  · exact enterEngaged_reacted s
  · exact .refl s

theorem enterEngaging_reacted (s : State) : Reacted s (enterEngaging s) := by
  unfold enterEngaging
  dsimp only
  refine Reacted.trans ?_ (judgeConfirm_reacted _)
  exact (Reacted.modPto _ s).trans ((command_reacted _ _ _).trans (ptoPublish_reacted _ _))

/-- A command makes progress on the PTO in answer to a join notice. -/
theorem ptoOnNotice_reacted (x : Notice) (s : State) : Reacted s (ptoOnNotice x s) := by
  unfold ptoOnNotice
  split
  · exact enterDisengaged_reacted _ s
  · split
    · exact enterDrop_reacted s
    · exact enterSpinDown_reacted s
  · split
    · exact enterDrop_reacted s
    · split
      · exact enterSpinDown_reacted s
      · exact .refl s
  · split
    · exact enterDrop_reacted s
    · exact .refl s
  · exact .refl s

theorem takeNotice_reacted (x : Notice) (s : State) : Reacted s (takeNotice x s) := by
  have h1 : ∀ u : State, Reacted s u → Reacted s (if x.actions.forceIdle then governorForceIdle u else u) := by
    intro u hu
    split
    · exact hu.trans (governorForceIdle_reacted u)
    · exact hu
  have h2 : ∀ u : State, Reacted s u → Reacted s (if x.entry = 0 then holdBegin u else u) := by
    intro u hu
    split
    · exact hu.trans (holdBegin_reacted u)
    · exact hu
  unfold takeNotice
  dsimp only
  apply h2
  apply h1
  split
  · exact ptoOnNotice_reacted x s
  · exact .refl s

theorem takeNotices_reacted : ∀ (k : Nat) (s : State), Reacted s (takeNotices k s)
  | 0, s => .modIlk _ s
  | k + 1, s => by
    unfold takeNotices
    split
    · exact .refl s
    · exact (Reacted.modIlk _ s).trans ((takeNotice_reacted _ _).trans (takeNotices_reacted k _))

/-- The end of a command leaves all that `Reacted` names. -/
theorem settle_reacted (s : State) : Reacted s (settle s) := takeNotices_reacted _ s

/-- A command that has given no join notice settles as it stands. -/
theorem settle_of_no_notice (s : State) (h : s.ilk.notices = []) : settle s = s := by
  unfold settle noticeBound takeNotices
  rw [h]

end Sys2Proof.Machine
end

