-- ==== Sys2Proof/Tests/Slice0.lean ====
section
/-! SUPPORT. The model's own tests: which commands are well formed, one step at a time against figures that the
manual works out, and for each statement about the KL482 a state and operands that meet its hypotheses. -/

open Sys2Proof Sys2Proof.Machine

namespace Sys2Proof.Tests

set_option Elab.async false

/-! ## Helpers -/

/-- Whether an outcome is a next state of which `p` holds. -/
def answers (o : Host.Outcome State Fault Refusal) (p : State → Bool) : Bool :=
  match o with
  | .next t => p t
  | _ => false

/-- The result and the data of the reply that a command leaves in a port's slot. -/
def replied (c : Instr) (p : Port) (s : State) : Option (Byte × List Byte) :=
  match exec c s with
  | .next t => (t.port p).reply.map fun r => (r.result, r.data)
  | _ => none

/-- The result character of the reply. -/
def resultOf (c : Instr) (p : Port) (s : State) : Option Byte := (replied c p s).map (·.1)

/-- A step answers a next state. -/
theorem exists_next {o : Host.Outcome State Fault Refusal} (h : answers o (fun _ => true) = true) :
    ∃ t, o = .next t := by
  cases o with
  | next t => exact ⟨t, rfl⟩
  | fault r => cases h
  | refused r => cases h

/-- An operator's header on each port, and a service tool's on port A. -/
def hA : Header := ⟨.a, .operator, 5, false⟩
def hB : Header := ⟨.b, .operator, 37, false⟩
def hS : Header := ⟨.a, .service, 9, false⟩

/-- The state with the loaded value of one item replaced. -/
def setItem (i : Nat) (v : Half) (s : State) : State := s.modStore fun m => { m with live := tableSet m.live i v }

/-- A line commanded and driven to a level that its readback shows. -/
def lineAt (on : Bool) (l : OutputLine) : OutputLine :=
  { l with commanded := on, effective := on, readback := on }

/-- A switch line settled at a state. -/
def switchAt (c : Contact) (active : Bool) (l : SwitchLine) : SwitchLine :=
  { l with raw := c, active := active, settled := true }

/-- The load about to complete. -/
def loading : State := { State.reset with ctl := ⟨true, none, false, .loading⟩ }

/-- In service on the defaults: ROAD, every switch settled inactive, both ports listening. -/
def service : State := { State.reset with
  ctl := ⟨true, none, false, .running⟩
  road := { State.reset.road with gateTimer := some 250000 }
  analog := { State.reset.analog with sampleTimer := some 10000 }
  disc := (State.reset.disc.map (switchAt .opened false)).set 3 (switchAt .closed false (.reset true))
  tank := { State.reset.tank with levelTimer := some 100000 }
  out := { State.reset.out with lines := State.reset.out.lines.set 1 (lineAt true (.reset .keep)) }
  links := ⟨{ PortRecord.reset with listening := true }, { PortRecord.reset with listening := true }⟩
  store := ⟨defaultTable, none, false, ⟨[], 0⟩⟩ }

/-- Parked with the brake set, in neutral at 760 rpm; PANEL holds authority. -/
def parked : State := { service with
  ilk := { service.ilk with mode := .parked }
  road := { service.road with standstill := true, zeroRun := 4 }
  pulse := { service.pulse with eng := ⟨[0], 760, some 400000⟩ }
  disc := (service.disc.set 0 (switchAt .closed true (.reset false))).set 1
    (switchAt .closed true (.reset false))
  auth := ⟨some .panel, none, none, some 2000000, false⟩ }

/-- In QUALIFY with all four conditions holding. -/
def qualifying : State := { parked with
  pto := ⟨.qualify, none, none, none, some 5000000, some 1000000, none, none, false, none⟩ }

/-- In ENGAGING, with PTO_SOL on. -/
def engaging : State := ({ parked with pto := ptoEngaging parked }).modLine 0 (lineAt true)

/-- In PUMP with the governor IDLE at 750. -/
def pumping : State :=
  { parked with
    ilk := { parked.ilk with mode := .pump }
    pto := ptoEngaged
    disc := parked.disc.set 2 (switchAt .closed true (.reset false))
    pulse := { parked.pulse with pump := ⟨[0], 750, some 400000⟩ }
    gov := { State.reset.gov with
      state := .idle, demand := some 750, dmax := some 2200, updateTimer := some 50000, duty := 150 }
    out := { parked.out with lines := ((parked.out.lines.set 0 (lineAt true (.reset .off))).set 1
      (lineAt false (.reset .keep))).set 9 (lineAt true (.reset .off)) } }

/-- In PUMP with the governor at a mode and a demand. -/
def governing (g : GovState) (setpoint demand duty : Int) : State := pumping.modGov fun x =>
  { x with state := g, ps := setpoint, ns := if g = .speed then setpoint else 750, demand := some demand
           duty := duty }

/-- In ROLL under CAB, which item 60 permits. -/
def rolling : State := ((setItem 60 1 pumping).modLine 1 (lineAt true)) |> fun s =>
  { s with
    ilk := { s.ilk with mode := .roll }
    gov := { s.gov with dmax := some 1400, capActive := true }
    auth := ⟨some .cab, none, none, some 2000000, false⟩ }

/-- Entries with one of them moved, at the end of the active list. -/
def listed (n : Fin 32) (e : EntryState) (s : State) : State :=
  (s.modEntry n fun x => { x with state := e }).modIlk fun k => { k with active := k.active ++ [n] }

/-- A stop hold begun in PUMP, with the release at its DROP stage and ALARM sounding. -/
def stopped : State := (listed 0 .active pumping) |> fun s =>
  { s with
    ilk := { s.ilk with cadence := some 500000 }
    pto := ⟨.releasing, some .drop, none, none, none, none, none, some 2000000, false, none⟩
    disc := s.disc.set 3 (switchAt .opened true (.reset true))
    gov := { s.gov with dmax := some 750, capActive := true, duty := 50 }
    out := ⟨#v[lineAt false (.reset .off), { OutputLine.reset .keep with kept := some false },
      { OutputLine.reset .keep with kept := some false }, { OutputLine.reset .keep with kept := some false },
      { OutputLine.reset .keep with kept := some false }, { OutputLine.reset .on with effective := true },
      .reset .off, { OutputLine.reset .on with commanded := true, effective := true }, .reset .off,
      .reset .off], true⟩ }

/-! ## Which commands are well formed -/

theorem test_acknowledge_255_is_ill_formed : (Instr.acknowledgeLockout hA 255).wellFormed = false := by decide

theorem test_acknowledge_31_is_well_formed : (Instr.acknowledgeLockout hA 31).wellFormed = true := by decide

theorem test_short_image_is_ill_formed : (Instr.storeComplete (some ⟨[1], 2⟩)).wellFormed = false := by decide

theorem test_no_image_is_well_formed : (Instr.storeComplete none).wellFormed = true := by decide

theorem test_item_count : itemNumbers.length = itemCount := by decide +kernel

/-- No row of the table gives bits. -/
theorem test_no_word_spells_a_command : decodeTableWord 16 12345 = none := rfl

/-- The check of the nine digits, the usual check value of this code (general knowledge). -/
theorem test_crc_check_value : crc16 [49, 50, 51, 52, 53, 54, 55, 56, 57] = 0x29B1#16 := by decide +kernel

/-! ## Measured inputs (sections 1.3, 1.5 and 1.7) -/

/-- The pump-shaft sequence of section 1.3: the edge at 25,400. -/
def shaft (now : Stamp) : State := pumping.modPulse fun p =>
  { p with timebase := now, pump := ⟨[0, 5000, 10000, 15200, 20200], 2970, some 1⟩ }

theorem test_pump_edge_at_full_history : answers (exec (.periodEdge .pump) (shaft 25400)) (fun t =>
    t.pulse.pump == ⟨[5000, 10000, 15200, 20200, 25400], 2941, some 400000⟩) = true := by decide +kernel

theorem test_flow_rate_and_count : answers (exec (.periodEdge .flow) (service.modPulse fun p => { p with
    timebase := 480000, flow := ⟨[0, 120000, 240000, 360000], 0, none⟩, flowCount := 7 })) (fun t =>
    t.pulse.flow.rate == 1000 && t.pulse.flowCount == 8) = true := by decide +kernel

theorem test_stale_expiry_empties_the_history :
    answers (exec (.staleTimerExpiry .pump) (shaft 425400)) (fun t => t.pulse.pump == ⟨[], 0, none⟩) = true := by
  decide +kernel

/-- The 28th forward edge of section 1.5, on A rising with B low; and the edge that reaches the creep limit. -/
def creeping (gate creep : Int) : State := pumping.modRoad fun r => { r with gate := gate, creep := creep }

theorem test_forward_edge : answers (exec (.roadEdge .a) (creeping 27 27)) (fun t =>
    t.road.gate == 28 && t.road.creep == 28 && t.road.phaseA && t.ilk.active.isEmpty) = true := by
  decide +kernel

theorem test_creep_limit_joins_entry_6 : answers (exec (.roadEdge .a) (creeping 11 39)) (fun t =>
    t.road.creep == 40 && t.ilk.active == [6] && t.gov.state == .idle) = true := by decide +kernel

theorem test_gate_forward_and_still : answers (exec .gateTimerExpiry (creeping 28 28)) (fun t =>
    t.road.speed == 201 && t.road.gate == 0 && !t.road.standstill && t.road.zeroRun == 0) = true := by
  decide +kernel

theorem test_gate_truncates_toward_zero : answers (exec .gateTimerExpiry (creeping (-7) 0)) (fun t =>
    t.road.speed == -50) = true := by decide +kernel

/-- Channels whose fourth sample gives the averages of section 1.7. -/
def sampling : State := service.modAnalog fun a => { a with
  dis := ⟨[1500, 1502, 1499], 1500, 831, true, 0, 3, false⟩
  int := ⟨[602, 602, 602], 602, 0, true, 0, 3, false⟩
  hwt := ⟨[1066, 1066, 1066], 1066, 0, true, 0, 3, false⟩
  cas := ⟨[1700, 1700, 1700], 1700, 0, true, 0, 3, false⟩
  sup := ⟨[1200, 1200, 1200], 1200, 0, true, 0, 3, false⟩ }

theorem test_sample_values : answers (exec (.sampleTimerExpiry ⟨1501, 602, 1066, 0, 1700, 1200⟩) sampling) (fun t =>
    t.analog.dis.average == 1500 && t.analog.dis.value == 831 && t.analog.int.value == -1 &&
    t.analog.hwt.value == 500 && t.analog.cas.value == 43 && t.analog.sup.value == 105) = true := by
  decide +kernel

/-- Sample s+9 of section 1.7, in section 12.3: DIS becomes INVALID, and PRESSURE falls back to SPEED at 1505. -/
def broken : State := (governing .pressure 800 1505 401).modAnalog fun a => { a with
  dis := ⟨[120, 120, 120, 120], 120, 0, true, 9, 10, true⟩, sup := ⟨[], 0, 120, true, 0, 10, false⟩ }

theorem test_lost_transducer_falls_back :
    answers (exec (.sampleTimerExpiry ⟨120, 0, 0, 0, 1200, 1600⟩) broken) (fun t =>
    !t.analog.dis.valid && t.analog.dis.value == 0 && t.analog.dis.run == 0 && t.gov.state == .speed &&
    t.gov.ns == 1505 && t.gov.fallback && t.gov.duty == 401 && t.ilk.active == [11]) = true := by decide +kernel

/-! ## Switch inputs, full reset and start-up -/

theorem test_opened_stop_loop_starts_5_ms : answers (exec (.rawLevelChange 3 .opened) pumping) (fun t =>
    t.disc[3] == ⟨.opened, false, some 5000, true⟩) = true := by decide +kernel

/-- The contact of line `n` about to settle at a level. -/
def settling (n : Fin 12) (c : Contact) (s : State) : State :=
  s.modSwitch n fun l => { l with raw := c, debounce := some 0 }

/-- Section 12.4 at 1205. -/
theorem test_pump_stop_in_engaging :
    answers (exec (.debounceExpiry 3) (settling 3 .opened (settling 2 .closed engaging |> fun s =>
      s.modSwitch 2 (switchAt .closed true)))) (fun t =>
    t.pto.state == .releasing && t.pto.stage == some .drop && t.pto.stageTimer == some 2000000 &&
    t.gov.state == .idle && t.gov.demand == some 750 && t.gov.capActive && t.gov.duty == 50 && t.out.hold &&
    t.ilk.active == [0] && t.ilk.mode == .parked &&
    (allLines.map fun n => t.out.lines[n].effective) ==
      [false, true, false, false, false, true, false, true, false, false]) = true := by decide +kernel

/-- Section 12.2 at 1200: the released brake starts entry 7's delay. -/
theorem test_released_brake_in_pump : answers (exec (.debounceExpiry 0) (settling 0 .opened pumping)) (fun t =>
    t.ilk.mode == .pump && t.ilk.entries[7] == ⟨.pending, some 1000000, false⟩ && t.ilk.active.isEmpty) = true := by
  decide +kernel

theorem test_brown_out_holds_the_part : answers (exec .brownOut pumping) (fun t =>
    t.ctl == ⟨false, none, false, .held⟩ && t.out.lines[0].effective == false && t.disc[0].raw == .closed &&
    t.ilk.mode == .road && t.gov.duty == 50) = true := by decide +kernel

theorem test_supply_rise_starts_10_ms : answers (exec .supplyRiseAbove6V State.reset) (fun t =>
    t.ctl == ⟨true, some 10000, false, .held⟩) = true := by decide +kernel

theorem test_supply_hold_ends : answers (exec .supplyHoldExpiry
    (State.reset.modCtl fun _ => ⟨true, some 0, false, .held⟩)) (fun t =>
    t.ctl == ⟨true, none, false, .loading⟩) = true := by decide +kernel

theorem test_reset_pin_holds_the_part : answers (exec .resetPinAssert pumping) (fun t =>
    t.ctl == ⟨true, none, true, .held⟩ && t.out.lines[0].effective == false) = true := by decide +kernel

theorem test_pin_release_begins_start_up : answers (exec .resetPinRelease
    (State.reset.modCtl fun _ => ⟨true, none, true, .held⟩)) (fun t =>
    t.ctl == ⟨true, none, false, .loading⟩) = true := by decide +kernel

/-- Section 11.5 at 140: the empty image gives the defaults. -/
theorem test_start_on_defaults : answers (exec .loadComplete loading) (fun t =>
    t.store.defaultsInUse && t.ilk.active == [13] && t.cfg 240 == 2000 &&
    t.links.a.queue.map (·.key) ==
      [.lockout 13, .mode, .pto, .governor, .authority, .tank .water, .tank .foam]) = true := by decide +kernel

/-! ## Lockouts (sections 2.8, 2.9, 4.5 and 12.4) -/

theorem test_entry_7_joins : answers (exec (.entryDelayExpiry 7) ((settling 0 .opened pumping).modSwitch 0
      (switchAt .opened false) |> fun s => s.modEntry 7 fun _ => ⟨.pending, some 0, false⟩)) (fun t =>
    t.ilk.entries[7] == ⟨.active, none, false⟩ && t.ilk.active == [7] && t.out.lines[7].commanded &&
    t.ilk.cadence == some 500000) = true := by decide +kernel

/-- Entry 5 joins in ROLL and begins a release (section 12.2 at 9250): the governor is IDLE and keeps D. -/
def overspeed : State := ((rolling.modRoad fun r => { r with speed := 141, standstill := false })
  |>.modEntry 5 fun _ => ⟨.pending, some 0, false⟩) |> fun s => { s with
    gov := { s.gov with state := .pressure, ps := 1000, demand := some 1400, duty := 366 }
    pulse := { s.pulse with eng := ⟨[0], 1400, some 1⟩ } }

theorem test_entry_5_releases : answers (exec (.entryDelayExpiry 5) overspeed) (fun t =>
    t.pto.stage == some .spinDown && t.pto.stageTimer == some 5000000 && t.gov.state == .idle &&
    t.gov.demand == some 1400 && t.ilk.mode == .roll && !t.out.lines[9].commanded) = true := by decide +kernel

theorem test_cadence_turns_over : answers (exec .cadenceTimerExpiry (listed 7 .active pumping |> fun s =>
    (s.modIlk fun k => { k with cadence := some 0 }).modLine 7 (lineAt true))) (fun t =>
    !t.out.lines[7].commanded && t.ilk.cadence == some 500000) = true := by decide +kernel

/-- SPEED at 1800 in PUMP under CAB, with a roll permitted. -/
def cabPump : State := (setItem 60 1 (governing .speed 1800 1800 500)).modAuth fun a =>
  { a with holder := some .cab }

theorem test_enter_roll_caps_the_demand : answers (exec (.enterRoll hB) cabPump) (fun t =>
    t.ilk.mode == .roll && t.gov.demand == some 1400 && t.gov.duty == 366 && t.gov.capActive &&
    t.out.lines[1].commanded) = true := by decide +kernel

theorem test_leave_roll_keeps_the_demand : answers (exec (.leaveRoll hA) (rolling.modGov fun g =>
    { g with state := .speed, ns := 1800, demand := some 1400, duty := 366 })) (fun t =>
    t.ilk.mode == .pump && t.gov.demand == some 1400 && t.gov.dmax == some 2200 && !t.gov.capActive &&
    !t.out.lines[1].commanded) = true := by decide +kernel

/-- Section 12.4 at 22000: the last held entry is acknowledged, and the hold ends. -/
def stopHeld : State := { stopped with
  ilk := { stopped.ilk with entries := stopped.ilk.entries.set 0 ⟨.held, none, false⟩, mode := .parked }
  pto := State.reset.pto
  gov := State.reset.gov
  disc := stopped.disc.set 3 (switchAt .closed false (.reset true)) }

theorem test_acknowledged_stop_ends_the_hold : answers (exec (.acknowledgeLockout hA 0) stopHeld) (fun t =>
    !t.out.hold && t.ilk.active.isEmpty && !t.out.lines[5].effective && !t.out.lines[7].effective &&
    t.gov.duty == 50) = true := by decide +kernel

/-- Section 2.8 at 7200: of 7 ACTIVE and 12 HELD, one is cleared. -/
theorem test_acknowledge_all_counts_the_held :
    replied (.acknowledgeLockoutAll hA) .a (listed 12 .held (listed 7 .active pumping)) = some (0, [1]) := by
  decide +kernel

/-- Section 2.8 at 4300. -/
theorem test_silence_stops_the_horn : answers (exec (.silenceAlarm hA) ((listed 12 .active
    (listed 7 .active pumping)).modIlk (fun k => { k with cadence := some 1 }) |>.modLine 7 (lineAt true))) (fun t =>
    t.ilk.entries[7].silenced && t.ilk.entries[12].silenced && t.ilk.cadence == none &&
    !t.out.lines[7].commanded && t.ilk.active == [7, 12]) = true := by decide +kernel

/-! ## Power take-off (sections 3.5, 3.6 and 3.12) -/

theorem test_engage_out_of_neutral :
    answers (exec (.ptoEngage hA) (parked.modSwitch 1 (switchAt .opened false))) (fun t =>
    t.pto.state == .qualify && t.pto.window == some 5000000 && t.pto.hold == none &&
    t.pto.failing == some .neutral) = true := by decide +kernel

theorem test_release_spins_down : answers (exec (.ptoRelease hB) (pumping.modPulse fun p =>
    { p with eng := ⟨[0], 1600, some 1⟩ })) (fun t =>
    t.pto.stage == some .spinDown && t.pto.stageTimer == some 5000000 && t.out.lines[0].commanded &&
    t.ilk.mode == .pump && t.gov.state == .idle) = true := by decide +kernel

/-- The PTO in FAULT, with entry 1 ACTIVE and ALARM sounding. -/
def faulted : State := (listed 1 .active parked) |> fun s => { s with
  pto := ptoFault .stuckEngaged
  ilk := { s.ilk with cadence := some 1 }
  out := { s.out with lines := s.out.lines.set 7 (lineAt true (.reset .on)) } }

theorem test_clear_fault : answers (exec (.clearPtoFault hA) faulted) (fun t =>
    t.pto == ptoDisengaged none && t.ilk.active.isEmpty && t.ilk.cadence == none) = true := by decide +kernel

theorem test_window_names_neutral : answers (exec .windowTimerExpiry (qualifying.modPto fun p =>
    { p with hold := none, failing := some .neutral })) (fun t =>
    t.pto == ptoDisengaged (some .neutral)) = true := by decide +kernel

theorem test_hold_begins_engaging : answers (exec .holdTimerExpiry qualifying) (fun t =>
    t.pto.state == .engaging && t.pto.confirm == some 3000000 && t.pto.window == none &&
    t.out.lines[0].commanded) = true := by decide +kernel

/-- Section 3.5 at 2650 and 2900: ratio 1250 at 760 rpm gives the threshold 874. -/
theorem test_confirm_threshold : confirmThreshold (setItem 74 1250 engaging) = 874 := by decide +kernel

theorem test_confirm_timeout : answers (exec .confirmTimerExpiry engaging) (fun t =>
    t.pto == ptoFault .confirmTimeout && !t.out.lines[0].commanded && t.ilk.active == [1]) = true := by
  decide +kernel

/-- A release in PUMP at a stage, with the gear in mesh. -/
def releasing (g : Stage) : State := (pumping |>.modLine 0 (lineAt (g == .spinDown)) |>.modLine 9 (lineAt false)
  |>.modPto fun _ => ⟨.releasing, some g, none, none, none, none, none, some 0, false, none⟩)

theorem test_spin_down_gives_way_to_drop : answers (exec .spinDownTimerExpiry (releasing .spinDown)) (fun t =>
    t.pto.stage == some .drop && t.pto.stageTimer == some 2000000 && !t.out.lines[0].commanded) = true := by
  decide +kernel

/-- Section 3.12 at 3200. -/
theorem test_stuck_gear : answers (exec .dropTimerExpiry (releasing .drop)) (fun t =>
    t.pto == ptoFault .stuckEngaged && t.ilk.mode == .parked && t.ilk.active == [1] && t.gov.duty == 50 &&
    t.ilk.entries[2] == ⟨.pending, some 500000, false⟩ && t.out.lines[1].commanded) = true := by decide +kernel

/-! ## Governor (sections 4.5, 4.6, 4.8 and 10.5) -/

/-- The figures of section 4.5: DIS and INT as they stand at an update from a demand. -/
def updating (d : Int) (dis int : Int) : State := (governing .pressure 1000 d 400).modAnalog fun a =>
  { a with dis := { a.dis with valid := true, value := dis }, int := { a.int with valid := true, value := int } }

theorem test_update_1 : answers (exec .updateTimerExpiry (updating 1500 880 150)) (fun t =>
    t.gov.demand == some 1530 && t.gov.duty == 410) = true := by decide +kernel

theorem test_update_3_cavitates : answers (exec .updateTimerExpiry (updating 1540 980 (-70))) (fun t =>
    t.gov.demand == some 1520 && t.gov.duty == 406 && t.gov.cavitation) = true := by decide +kernel

theorem test_set_governor_is_clamped : replied (.setGovernor hB 2 1900) .b ((updating 1500 880 150).modAuth
    fun a => { a with holder := some .cab }) = some (1, [6, 164]) := by decide +kernel

theorem test_pwm_high_time : answers (exec .pwmPeriodEnd (governing .pressure 1000 1530 410)) (fun t =>
    t.pwm == ⟨3, 410, some 4000⟩ && t.pwm.highTime == 1640) = true := by decide +kernel

/-! ## Tanks (sections 5.2 to 5.5, 6.4, 6.6 and 6.7) -/

/-- Section 5.2 at n+15: the run of 13 reaches the requirement of 5 at standstill. -/
theorem test_probe_settles_dry :
    (Probe.take ⟨0, .wet, true, some .dry, 12, none⟩ 35 60 5 == ⟨35, .dry, true, none, 0, none⟩) = true := by
  decide

/-- Sections 5.3 and 5.5: 1000 L at 500 mm; and HWT 252 moves 430 L to 428. -/
theorem test_default_water_table :
    (volumeAt (strapPoints service .water) 500, volumeAt (strapPoints service .water) 400) = (1000, 766) := by
  decide +kernel

/-- The draining tank of section 5.5 at expiry m. -/
def draining : State := (pumping.modAnalog fun a => { a with
    hwt := { a.hwt with valid := true, value := 252 } }).modTank fun m => { m with
  water := { m.water with vf := some 430, status := .normal, reason := none, vrep := 430, cls := .low
                          clsJudged := true }
  probes := ((m.probes.set 0 ⟨72, .wet, true, none, 0, none⟩).set 1 ⟨9, .dry, true, none, 0, none⟩).set 2
    ⟨9, .dry, true, none, 0, none⟩ |>.set 3 ⟨9, .dry, true, none, 0, none⟩ }

theorem test_draining_tank : answers (exec (.levelTimerExpiry #v[72, 9, 9, 9, 9, 9]) draining) (fun t =>
    t.tank.water.vf == some 428 && t.tank.water.vrep == 428 && t.tank.water.status == .normal &&
    t.tank.water.cls == .low) = true := by decide +kernel

/-- Section 6.7: the window that closes at 5204 L fails at 2250 L and passes at 2190 L. -/
theorem test_reconciliation_figures : (checkFails 150 204 15, checkFails 210 204 15) = (true, false) := by decide

/-- A reported volume that a level expiry has published. -/
def reported (v : Int) (m : TankMonitor) : TankMonitor :=
  { m with levelVrep := v, water := { m.water with vrep := v } }

/-- AUTO with a supply, at 1950 L. -/
def filling : State := (pumping.modTank fun m => { reported 1950 m with
    fillMode := .auto, external := true, fillWindow := some ⟨1950, 0⟩ }).modLine 4 (lineAt true)

theorem test_fill_failure : answers (exec .progressWindowExpiry filling) (fun t =>
    t.tank.fillMode == .off && t.tank.fillFault && !t.out.lines[4].commanded && t.ilk.active == [15]) = true := by
  decide +kernel

theorem test_tank_valve_opens : answers (exec (.tankValve hA 1) pumping) (fun t =>
    t.out.lines[3].commanded && t.out.lines[3].diag == .blank && t.out.lines[3].blank == some 100000) = true := by
  decide +kernel

theorem test_foam_starts_in_engaged : answers (exec (.foamPump hA 1) pumping) (fun t =>
    t.out.lines[8].commanded) = true := by decide +kernel

/-- Section 12.1 at 4000. -/
theorem test_auto_fill_opens : answers (exec (.setFillMode hA 2) (pumping.modTank fun m => { reported 1900 m with
    external := true })) (fun t =>
    t.tank.fillMode == .auto && t.out.lines[4].commanded && t.tank.fillWindow == some ⟨1900, 30000000⟩) = true := by
  decide +kernel

/-- A primer run, with the prime timer as it stands. -/
def priming (t : Timer) : State := (pumping.modTank fun m => { m with
  priming := true, runTimer := some 24700000, primeTimer := t }).modLine 6 (lineAt true)

theorem test_primer_starts : answers (exec (.primerStart hA) pumping) (fun t =>
    t.tank.priming && t.tank.runTimer == some 45000000 && t.tank.primeTimer == none &&
    t.out.lines[6].commanded) = true := by decide +kernel

theorem test_primer_stops : answers (exec (.primerStop hB) (priming none)) (fun t =>
    !t.tank.priming && t.tank.outcome == .stopped && !t.out.lines[6].commanded) = true := by decide +kernel

theorem test_prime_is_reached : answers (exec .primeTimerExpiry (priming (some 0))) (fun t =>
    !t.tank.priming && t.tank.outcome == .primed && t.tank.runTimer == none) = true := by decide +kernel

theorem test_run_times_out : answers (exec .runTimerExpiry (priming none)) (fun t =>
    !t.tank.priming && t.tank.outcome == .timeout) = true := by decide +kernel

/-! ## Output lines (section 7.6) -/

/-- TANK_VALVE commanded open on a broken coil, with its diagnostics at a point of section 7.6. -/
def coil (f : OutputLine → OutputLine) : State := pumping.modLine 3 fun l =>
  f { l with commanded := true, effective := true }

theorem test_readback_starts_the_mismatch : answers (exec (.readbackChange 3 false)
    (coil fun l => { l with readback := true })) (fun t =>
    t.out.lines[3].mismatch == some 100000) = true := by decide +kernel

theorem test_blank_ends_on_a_bad_readback : answers (exec (.blankTimerExpiry 3)
    (coil fun l => { l with diag := .blank, blank := some 0 })) (fun t =>
    t.out.lines[3].diag == .ok && t.out.lines[3].mismatch == some 100000) = true := by decide +kernel

theorem test_mismatch_begins_a_retry : answers (exec (.mismatchTimerExpiry 3)
    (coil fun l => { l with mismatch := some 0 })) (fun t =>
    !t.out.lines[3].effective && t.out.lines[3].diag == .faultOpen && t.out.lines[3].retryCount == 1 &&
    t.out.lines[3].retryPhase == some .offPhase && t.ilk.active == [12]) = true := by decide +kernel

theorem test_good_retry_ends_the_fault : answers (exec (.mismatchTimerExpiry 3) (listed 12 .active (coil fun l =>
    { l with mismatch := some 0, diag := .faultOpen, retryCount := 2, retryPhase := some .onPhase
             readback := true }))) (fun t =>
    t.out.lines[3].effective && t.out.lines[3].diag == .ok && t.out.lines[3].retryCount == 0 &&
    t.ilk.entries[12].state == .held) = true := by decide +kernel

theorem test_retry_goes_on : answers (exec (.retryTimerExpiry 3) (coil fun l =>
    { l with effective := false, diag := .faultOpen, retryCount := 1, retryPhase := some .offPhase
             retry := some 0 })) (fun t =>
    t.out.lines[3].effective && t.out.lines[3].retryPhase == some .onPhase &&
    t.out.lines[3].blank == some 100000) = true := by decide +kernel

/-- Section 2.8 at 5000. -/
theorem test_cleared_fault_holds_entry_12 : answers (exec (.clearOutputFaults hA) (listed 12 .active
    (coil fun l => { l with diag := .faultOpen, retryCount := 3 }))) (fun t =>
    t.out.lines[3].diag == .blank && t.out.lines[3].retryCount == 0 &&
    t.ilk.entries[12].state == .held) = true := by decide +kernel

/-! ## Authority (section 8.8) -/

theorem test_cab_claims : answers (exec (.takeAuthority hB) pumping) (fun t =>
    t.auth.holder == some .panel && t.auth.claimant == some .cab) &&
    resultOf (.takeAuthority hB) .b pumping == some 2 := by decide +kernel

theorem test_yield_passes_on : answers (exec (.yieldAuthority hA) (pumping.modAuth fun a =>
    { a with claimant := some .cab })) (fun t =>
    t.auth == ⟨some .cab, none, none, some 2000000, false⟩) = true := by decide +kernel

theorem test_lapse_joins_entry_14 : answers (exec .silenceTimerExpiry rolling) (fun t =>
    t.auth == ⟨none, none, none, none, true⟩ && t.ilk.active == [14] && t.ilk.mode == .roll) = true := by
  decide +kernel

/-- At 12000: PANEL is granted, which ends the lapse. -/
theorem test_grant_ends_the_lapse : answers (exec (.takeAuthority hA) ((listed 14 .active rolling).modAuth fun _ =>
    ⟨none, none, none, none, true⟩)) (fun t =>
    t.auth == ⟨some .panel, none, none, some 2000000, false⟩ && t.ilk.entries[14].state == .held) = true := by
  decide +kernel

/-! ## Links (sections 9.6, 10.5 and 11.5) -/

/-- The queue of section 9.6. -/
def queued : State := pumping.modPort .a fun p => { p with
  queue := [⟨.pto, ⟨3, 0, 0⟩, false⟩, ⟨.mode, ⟨2, 0, 0⟩, false⟩, ⟨.governor, ⟨1, 0, 0⟩, false⟩]
  attention := true }

theorem test_fetch_carries_three : answers (exec (.fetchReports hA) queued) (fun t =>
    t.links.a.queue.all (·.carried) && t.links.a.attention &&
    ((t.links.a.reply.map (·.chars.length)) == some 27)) = true := by decide +kernel

/-- The first character of a reply is marked and carries the controller's address 0; the rest are unmarked (R159). -/
theorem test_reply_is_marked_once : (Reply.chars ⟨5, 1, 0, [7], []⟩).head? = some ⟨0, true⟩ ∧
    (Reply.chars ⟨5, 1, 0, [7], []⟩).map (·.data) = [0, 4, 5, 1, 0, 7] ++ halfBytes (crc16 [4, 5, 1, 0, 7]) ∧
    ((Reply.chars ⟨5, 1, 0, [7], []⟩).drop 1).all (fun c => !c.mark) = true := by and_intros <;> decide +kernel

/-- At 5600: GOVERNOR was replaced since, and stays with LOCKOUT 7. -/
def sending : State := pumping.modPort .a fun p => { p with
  queue := [⟨.pto, ⟨3, 0, 0⟩, true⟩, ⟨.mode, ⟨2, 0, 0⟩, true⟩, ⟨.governor, ⟨2, 1000, 0⟩, false⟩,
    ⟨.lockout 7, ⟨2, 0, 0⟩, false⟩]
  attention := true, transmitting := true, txEnable := true
  reply := some ⟨5, 6, 0, [], [.pto, .mode, .governor]⟩ }

theorem test_completed_fetch_leaves_the_changed : answers (exec (.replyComplete .a) sending) (fun t =>
    t.links.a.queue.map (·.key) == [.governor, .lockout 7] && t.links.a.attention && !t.links.a.txEnable) = true := by
  decide +kernel

theorem test_reply_begins : answers (exec (.replyTransmitStart .a) (pumping.modPort .a fun p =>
    { p with reply := some ⟨5, 1, 0, [], []⟩ })) (fun t =>
    t.links.a.transmitting && t.links.a.txEnable) = true := by decide +kernel

/-- Section 10.5: the frame of nine characters that sets PRESSURE 1900 under tag 37. -/
def sentFrame : List Byte := requestFrame 1 hB 40 [2, 7, 108]

theorem test_last_character_sets_the_governor :
    answers (exec (.characterReceive .b (sentFrame.getLastD 0) false false) ((updating 1500 880 150).modAuth
      (fun a => { a with holder := some .cab }) |>.modPort .b fun p => { p with frame := some sentFrame.dropLast }))
    (fun t => sentFrame.length == 9 && t.gov.ps == 1700 &&
      t.links.b.reply == some ⟨37, 40, 1, [6, 164], []⟩) = true := by decide +kernel

/-- Three silent character times of 11 bits at 57600 are 572 µs, and end a frame. -/
theorem test_marked_character_begins_a_frame : answers (exec (.characterReceive .a 1 true false) pumping) (fun t =>
    t.links.a.frame == some [1] && t.links.a.gap == some 572) = true := by decide +kernel

theorem test_gap_ends_a_frame : answers (exec (.gapTimerExpiry .a) (pumping.modPort .a fun p =>
    { p with frame := some [1, 2], gap := some 0 })) (fun t =>
    t.links.a.frame == none && t.links.a.gap == none) = true := by decide +kernel

theorem test_status_of_the_pump : replied (.readStatus hA) .a pumping =
    some (0, [2, 3, 0, 0, 0, 1, 0, 0, 0, 2, 238, 1, 0, 0, 0]) := by decide +kernel

theorem test_measurements_group_0 : replied (.readMeasurements hA 0) .a pumping =
    some (0, [2, 248, 2, 238, 0, 0, 0, 0, 1]) := by decide +kernel

/-- With 22 entries in the list, the first six characters carry the bits 010110 of the count (R163). -/
def crowded : State := pumping.modIlk fun k => { k with
  active := allEntries.take 22, entries := k.entries.map fun _ => ⟨.active, none, false⟩ }

theorem test_lockouts_carry_the_count : (replied (.readLockouts hA) .a crowded).map (fun r =>
    (r.2.length, r.2.take 7)) = some (20, [0, 129, 2, 131, 132, 5, 6]) := by decide +kernel

theorem test_entry_7_is_read : replied (.readEntry hA 7) .a (listed 7 .active pumping) =
    some (0, [7, 255, 4, 32, 0, 3, 232, 2, 0, 0, 0, 1]) := by decide +kernel

theorem test_ratio_is_read : replied (.readSetting hA 74) .a pumping = some (0, [0, 74, 3, 232]) := by
  decide +kernel

theorem test_restart_refills_the_queue : answers (exec (.linkRestart hB) queued) (fun t =>
    t.links.b.queue.map (·.key) == [.mode, .pto, .governor, .authority, .tank .water, .tank .foam] &&
    t.links.a.queue == queued.links.a.queue && t.links.b.attention) = true := by decide +kernel

/-- Section 11.5 at 2000. -/
theorem test_ratio_is_written : answers (exec (.writeSetting hS 74 1250) parked) (fun t =>
    t.cfg 74 == 1250 && t.cfg 73 == 3000) = true := by decide +kernel

theorem test_store_takes_a_snapshot : answers (exec (.storeSettings hS) service) (fun t =>
    t.store.snapshot == some (defaultTable.map (·.2))) = true := by decide +kernel

/-- Section 11.5 at 2860. -/
theorem test_store_ends_defaults_in_use : answers (exec (.storeComplete none) ((listed 13 .active service).modStore
    fun m => { m with defaultsInUse := true, snapshot := some [1, 2] })) (fun t =>
    !t.store.defaultsInUse && t.ilk.entries[13].state == .held && t.store.snapshot == none &&
    t.links.a.queue.map (·.key) == [.lockout 13, .settings]) = true := by decide +kernel

/-! ## The test states keep the laws -/

theorem test_service_is_lawful : SettingsLaw service ∧ HeldLaw service ∧ LineLaw service ∧ DiagLaw service ∧
    DriveLaw service ∧ StopTaken service := by and_intros <;> decide +kernel

theorem test_qualifying_is_lawful : PtoLaw qualifying ∧ QualifyLaw qualifying ∧ SolenoidLaw qualifying ∧
    GovernorStateLaw qualifying ∧ AuthorityLaw qualifying := by and_intros <;> decide +kernel

theorem test_rolling_is_lawful : SettingsLaw rolling ∧ DutyLaw rolling ∧ DemandLaw rolling ∧ LineLaw rolling ∧
    EnableLaw rolling ∧ ReadyLaw rolling := by and_intros <;> decide +kernel

theorem test_stopped_is_lawful : LineLaw stopped ∧ StopLaw stopped ∧ DutyLaw stopped ∧ DemandLaw stopped ∧
    AlarmLaw stopped ∧ DiagLaw stopped := by and_intros <;> decide +kernel

/-! ## Witnesses: the machine and its laws -/

/-- A state with one command waiting. -/
def waiting (c : Instr) (s : State) : State := { s with pending := [c] }

theorem witness_IdleStepPassesTime : pumping.pending = [] ∧
    answers (step pumping) (fun t => t.pulse.timebase == 1 && t.auth.silence == some 1999999 &&
      t.pulse.eng.stale == some 399999 && t.analog.sampleTimer == some 9999) = true ∧
    answers (step (pumping.modAuth fun a => { a with silence := some 0 })) (·.auth.silence == some 0) = true := by
  and_intros <;> decide +kernel

theorem witness_StepKeepsReportQueues : QueuesLaw (waiting (.replyComplete .a) sending) ∧
    ∃ t, step (waiting (.replyComplete .a) sending) = .next t :=
  ⟨by and_intros <;> decide +kernel, exists_next (by decide +kernel)⟩

/-- A pump stop about to settle in PUMP. -/
def stopping : State := waiting (.debounceExpiry 3) (settling 3 .opened pumping)

theorem witness_StepKeepsActiveList :
    (ActiveLaw stopping ∧ DelayLaw stopping ∧ StopTaken stopping ∧ PtoTaken stopping ∧ HoldLaw stopping ∧
      NoticesTaken stopping ∧ HeldLaw stopping ∧ SourcesTaken stopping) ∧
    ∃ t, step stopping = .next t := ⟨by and_intros <;> decide +kernel, exists_next (by decide +kernel)⟩

theorem witness_StepKeepsAuthority : AuthorityLaw (waiting .silenceTimerExpiry rolling) ∧
    ∃ t, step (waiting .silenceTimerExpiry rolling) = .next t :=
  ⟨by and_intros <;> decide +kernel, exists_next (by decide +kernel)⟩

/-- A confirmation about to engage the pump. -/
def confirming : State := waiting (.debounceExpiry 2) (settling 2 .closed (engaging.modPulse fun p =>
  { p with pump := ⟨[0], 720, some 1⟩ }))

theorem witness_StepKeepsMode : (ModeLaw confirming ∧ QualifyLaw confirming) ∧ ∃ t, step confirming = .next t :=
  ⟨by and_intros <;> decide +kernel, exists_next (by decide +kernel)⟩

theorem witness_StepKeepsPtoContext : (PtoLaw confirming ∧ SolenoidLaw confirming ∧ GovernorStateLaw confirming) ∧
    ∃ t, step confirming = .next t := ⟨by and_intros <;> decide +kernel, exists_next (by decide +kernel)⟩

theorem witness_StepKeepsLines : (LineLaw stopping ∧ StopLaw stopping ∧ SettingsLaw stopping ∧ HeldLaw stopping ∧
    DiagLaw stopping) ∧ ∃ t, step stopping = .next t :=
  ⟨by and_intros <;> decide +kernel, exists_next (by decide +kernel)⟩

/-- Settings written in PARKED, and a pin that falls in PUMP. -/
def writing : State := waiting (.writeSetting hS 74 1250) parked
def falling : State := waiting .resetPinAssert pumping

theorem witness_StepKeepsSettingsAndFullReset :
    (SettingsLaw writing ∧ HeldLaw writing ∧ SettingsLaw falling ∧ HeldLaw falling) ∧
    (∃ t, step writing = .next t) ∧ ∃ t, step falling = .next t :=
  ⟨by and_intros <;> decide +kernel, exists_next (by decide +kernel), exists_next (by decide +kernel)⟩

/-- An Enter Roll about to cap the demand. -/
def entering : State := waiting (.enterRoll hB) cabPump

theorem witness_StepKeepsDemandAndDuty : (SettingsLaw entering ∧ HeldLaw entering ∧ ActiveLaw entering ∧
    WorkLaw entering ∧ DutyLaw entering ∧ DemandLaw entering) ∧ ∃ t, step entering = .next t :=
  ⟨by and_intros <;> decide +kernel, exists_next (by decide +kernel)⟩

theorem witness_StepKeepsDriveEnableAndLimit : (SettingsLaw entering ∧ ActiveLaw entering ∧ LineLaw entering ∧
    StopLaw entering ∧ HeldLaw entering ∧ DriveLaw entering ∧ EnableLaw entering ∧ LimitLaw entering) ∧
    ∃ t, step entering = .next t :=
  ⟨by and_intros <;> decide +kernel, exists_next (by decide +kernel)⟩

theorem witness_StepKeepsFoamAndReady : (FoamLaw confirming ∧ ReadyLaw confirming) ∧ ∃ t, step confirming = .next t :=
  ⟨by and_intros <;> decide +kernel, exists_next (by decide +kernel)⟩

/-- The stop begins the alarm; a confirmation that engages leaves it silent. -/
theorem witness_StepKeepsAlarm : (ActiveLaw stopping ∧ HeldLaw stopping ∧ AlarmLaw stopping ∧ HornLaw stopping ∧
      stopping.pending.head? ≠ some .cadenceTimerExpiry ∧ stopping.ilk.cadence = none) ∧
    answers (step stopping) (fun t => t.ilk.cadence == some 500000 && t.out.lines[7].commanded) = true ∧
    answers (step confirming) (fun t => t.ilk.cadence == none && !t.out.lines[7].commanded) = true := by
  and_intros <;> decide +kernel

/-- A volume written past the last one, which moves Vrep; and a level expiry that clamps Vrep to W1's height. -/
def strapping (v : Half) : State := waiting (.writeSetting hS 148 v) (parked.modTank fun m => { m with
  water := { m.water with tableValid := true, vrep := 2900 }, foam := { m.foam with tableValid := true } })

theorem witness_StepKeepsReportedVolume :
    (SettingsLaw (strapping 2000) ∧ HeldLaw (strapping 2000) ∧ VolumeLaw (strapping 2000)) ∧
    answers (step (strapping 2000)) (fun t => t.tank.water.vrep == 2000) = true ∧
    answers (step (strapping 2900)) (fun t => t.tank.water.vrep == 2900) = true ∧
    (SettingsLaw draining ∧ HeldLaw draining ∧ VolumeLaw draining ∧ draining.tank.levelTimer ≠ none) ∧
    answers (exec (.levelTimerExpiry #v[72, 9, 9, 9, 9, 9]) draining) (fun t =>
      t.tank.water.status == .normal && !t.tank.water.orderFault) = true := by and_intros <;> decide +kernel

/-- A primer run that a stop, and a lost confirmation, end STOPPED. -/
def primed (c : Instr) : State := waiting c (settling 3 .opened (settling 2 .opened (priming none)))

theorem witness_StepKeepsFoamAndReady_primer :
    (∀ n : Fin 12, n = 2 ∨ n = 3 → FoamLaw (primed (.debounceExpiry n)) ∧ ReadyLaw (primed (.debounceExpiry n)) ∧
      PrimerLaw (primed (.debounceExpiry n)) ∧
      answers (step (primed (.debounceExpiry n))) (fun t => !t.tank.priming && t.ctl.startup == .running &&
        t.tank.outcome == .stopped && !t.out.lines[6].commanded) = true) ∧
    (primed (.debounceExpiry 2)).tank.priming = true := by and_intros <;> decide +kernel

/-! ## Witnesses: measured inputs -/

/-- PUMP with the shaft published at a stamp, its engine at 500 rpm, the least at which the slip check runs. -/
def slipping : State := (shaft 25400).modPulse fun p => { p with eng := ⟨[0], 500, some 1⟩ }

/-- A glitch at 99 µs changes nothing, and an edge at 100 µs is taken. -/
theorem witness_PeriodChannelIsJudged :
    (∀ s ∈ [shaft 20299, shaft 20300, slipping], s.ctl.startup = .running ∧ NoticesTaken s) ∧
    answers (exec (.periodEdge .pump) (shaft 20299)) (· == shaft 20299) = true ∧
    answers (exec (.periodEdge .pump) (shaft 20300)) (·.pulse.pump.stale == some 400000) = true ∧
    slipping.pto.state = .engaged ∧ 500 ≤ slipping.pulse.eng.rate ∧
    answers (exec (.periodEdge .pump) slipping) (fun t => !t.pto.slip) = true ∧
    (slipping.period .pump).stale ≠ none ∧ (service.period .pump).stale = none ∧
    answers (exec (.staleTimerExpiry .pump) service) (· == service) = true := by and_intros <;> decide +kernel

/-- The PTO's answers: SPIN_DOWN at the release limit of 1000 rpm and one above it, and QUALIFY at 901 rpm, whose hold
timer a fall to 0 starts. -/
def spinning (rate : Nat) : State := (releasing .spinDown).modPulse fun p =>
  { p with timebase := 60000, eng := ⟨[0], rate, some 1⟩ }
def racing : State := (qualifying.modPto fun p => { p with hold := none, failing := some .engineSpeed }).modPulse
  fun p => { p with eng := ⟨[0], 901, some 1⟩ }

theorem witness_PeriodChannelIsJudged_pto :
    (∀ s ∈ [spinning 1001, slipping, racing], s.ctl.startup = .running ∧ NoticesTaken s ∧ PtoSound s) ∧
    answers (exec (.periodEdge .eng) (setItem 4 1 (spinning 1001))) (fun t =>
      t.pulse.eng.rate == 1000 && t.pto.stage == some .drop) = true ∧
    answers (exec (.periodEdge .eng) ((setItem 4 1 (spinning 1001)).modPulse fun p => { p with timebase := 59940 }))
      (fun t => t.pulse.eng.rate == 1001 && t.pto.stage == some .spinDown) = true ∧
    answers (exec (.staleTimerExpiry .eng) racing) (fun t =>
      t.pto.failing == none && t.pto.hold == some 1000000) = true := by and_intros <;> decide +kernel

/-- Section 3.6: at ratio 1250 and 1800 rpm the slip of 2070 rpm is at the limit, and that of 2050 is above. -/
def slipAt (pump : Nat) : State := slipCheck ((setItem 74 1250 pumping).modPulse fun p =>
  { p with eng := ⟨[0], 1800, some 1⟩, pump := ⟨[0], pump, some 1⟩ })

theorem test_slip_limit : ((slipAt 2070).pto.slip, (slipAt 2050).pto.slip) = (false, true) := by decide +kernel

/-- Each edge of the four phase states, by the table of R11. -/
def phases (a b : Bool) (gate : Int) : State := service.modRoad fun r =>
  { r with phaseA := a, phaseB := b, gate := gate, creep := gate }

/-- The creep counter in PUMP, beside the creep limit of 40. -/
def crept (n : Int) : State := pumping.modRoad fun r => { r with creep := n }

theorem witness_RoadEdgeIsCounted :
    (∀ s ∈ [crept 38, crept 39, phases false false 0, phases true false 0, phases false true (-32767),
      phases true true 32767], s.ctl.startup = .running ∧ NoticesTaken s) ∧
    answers (exec (.roadEdge .a) (phases false false 0)) (fun t => t.road.gate == 1) = true ∧
    answers (exec (.roadEdge .b) (phases false false 0)) (fun t => t.road.gate == -1) = true ∧
    answers (exec (.roadEdge .a) (phases true false 0)) (fun t => t.road.gate == -1) = true ∧
    answers (exec (.roadEdge .b) (phases true false 0)) (fun t => t.road.gate == 1) = true ∧
    answers (exec (.roadEdge .a) (phases false true (-32767))) (fun t => t.road.gate == -32767) = true ∧
    answers (exec (.roadEdge .b) (phases false true 0)) (fun t => t.road.gate == 1) = true ∧
    answers (exec (.roadEdge .a) (phases true true 32767)) (fun t => t.road.creep == 32767) = true ∧
    answers (exec (.roadEdge .b) (phases true true 0)) (fun t => t.road.gate == -1) = true ∧
    answers (exec (.roadEdge .a) (crept 38)) (fun t => t.road.creep == 39 && t.ilk.active == []) = true ∧
    answers (exec (.roadEdge .a) (crept 39)) (fun t => t.road.creep == 40 && t.ilk.active == [6]) = true := by
  and_intros <;> decide +kernel

/-- The third zero gate has closed in ROAD, with the park brake set. -/
def stopsNow : State := (parked.modIlk fun k => { k with mode := .road }).modRoad fun r =>
  { r with standstill := false, zeroRun := 3 }

/-- The same gate in ROLL; and a gate of so many counts in ROLL, where 14, 15, 18 and 19 give 100, 108, 129
and 136, beside the limits of 100 and 130. -/
def stillRolling : State := rolling.modRoad fun r => { r with standstill := false, zeroRun := 3, creep := 7 }
def goesAt (gate : Int) : State := rolling.modRoad fun r => { r with standstill := false, zeroRun := 0, gate := gate }

theorem witness_GateExpiryJudgesSpeed :
    NoticesTaken stopsNow ∧ stopsNow.road.gateTimer ≠ none ∧ stopsNow.ilk.mode = .road ∧
    answers (exec .gateTimerExpiry stopsNow) (fun t => t.road.standstill && t.ilk.mode == .parked) = true ∧
    PtoSound stopsNow ∧ PtoSound stillRolling ∧ PtoSound (goesAt 15) ∧
    answers (exec .gateTimerExpiry stillRolling) (fun t => t.ilk.mode == .pump && t.road.creep == 0) = true ∧
    answers (exec .gateTimerExpiry (goesAt 14)) (·.ilk.entries[4].state == .clear) = true ∧
    answers (exec .gateTimerExpiry (goesAt 15)) (fun t =>
      t.ilk.entries[4].state == .active && t.ilk.entries[5].state == .clear) = true ∧
    answers (exec .gateTimerExpiry (goesAt 18)) (·.ilk.entries[5].state == .clear) = true ∧
    answers (exec .gateTimerExpiry (goesAt 19)) (fun t =>
      t.ilk.entries[5] == ⟨.pending, some 3000000, false⟩) = true ∧
    NoticesTaken (creeping 25 0) ∧ (setItem 13 200 (creeping 25 0)).road.gateTimer ≠ none ∧
    answers (exec .gateTimerExpiry (setItem 13 200 (creeping 25 0))) (fun t => t.road.speed == 1500) = true := by
  and_intros <;> decide +kernel

/-- The lost transducer beside a supply lost at the same expiry, on an open tank in RESERVE. -/
def dried : State := ((broken.modAnalog fun a => { a with int := ⟨[100], 100, 0, true, 0, 10, true⟩ }).modTank fun m =>
  { m with external := true, water := { m.water with cls := .reserve } }).modLine 3 (lineAt true)

/-- SUP at the supply-low setting, one count short of it, and what each expiry meets. -/
theorem witness_SampleExpiryJudgesChannels :
    (∀ s ∈ [sampling, broken, priming none], NoticesTaken s ∧ s.analog.sampleTimer ≠ none) ∧
    answers (exec (.sampleTimerExpiry ⟨1501, 602, 1066, 0, 1700, 1200⟩) sampling) (fun t =>
      t.analog.cas.valid && !t.analog.supplyLow) = true ∧
    answers (exec (.sampleTimerExpiry ⟨1501, 602, 1066, 0, 1700, 1150⟩) sampling) (fun t =>
      t.analog.supplyLow) = true ∧
    answers (exec (.sampleTimerExpiry ⟨120, 0, 0, 0, 1200, 1600⟩) broken) (fun t =>
      !t.analog.cas.valid && t.out.lines[relief].commanded && !t.analog.dis.valid) = true ∧
    broken.gov.state = .pressure ∧ broken.gov.demand = some 1505 ∧ (priming none).tank.priming = true ∧
    answers (exec (.sampleTimerExpiry ⟨120, 0, 0, 0, 1200, 1600⟩) dried) (fun t => t.ilk.active.contains 8 &&
      t.gov.state == .idle && t.gov.ns == 1505 && t.gov.fallback) = true ∧ NoticesTaken dried ∧
    sampling.analog.supplyLow = false := by and_intros <;> decide +kernel

/-- Supply-low about to end at 110, its setting and 5, with TANK_VALVE marked, disagreeing or in an ON_PHASE. -/
def resuming (f : OutputLine → OutputLine) : State := { (coil f) with
  analog := { sampling.analog with supplyLow := true } }

theorem witness_SampleExpiryJudgesChannels_resume :
    (∀ f ∈ [fun l => { l with blankPending := true }, fun l => { l with readback := false },
        fun (l : OutputLine) => { l with diag := .faultOpen, retryCount := 1, retryPhase := some .onPhase }],
      NoticesTaken (resuming f) ∧ DiagLaw (resuming f) ∧ (resuming f).analog.supplyLow = true) ∧
    answers (exec (.sampleTimerExpiry ⟨1501, 602, 1066, 0, 1700, 1407⟩) (resuming fun l =>
      { l with blankPending := true })) (fun t => t.analog.supplyLow && t.out.lines[3].blankPending) = true ∧
    answers (exec (.sampleTimerExpiry ⟨1501, 602, 1066, 0, 1700, 1408⟩) (resuming fun l =>
      { l with blankPending := true })) (fun t => !t.analog.supplyLow &&
        t.out.lines[3].diag == .blank && t.out.lines[3].blank == some 100000) = true ∧
    answers (exec (.sampleTimerExpiry ⟨1501, 602, 1066, 0, 1700, 1408⟩) (resuming fun l =>
      { l with readback := false })) (fun t => t.out.lines[3].mismatch == some 100000) = true ∧
    answers (exec (.sampleTimerExpiry ⟨1501, 602, 1066, 0, 1700, 1408⟩) (resuming fun l =>
      { l with diag := .faultOpen, retryCount := 1, retryPhase := some .onPhase })) (fun t =>
        t.out.lines[3].mismatch == some 100000 && t.out.lines[3].commanded) = true := by
  and_intros <;> decide +kernel

theorem witness_RawLevelChangeIsDebounced :
    service.ctl.startup = .running ∧ SettingsLaw service ∧ service.store.live ≠ [] ∧
    answers (exec (.rawLevelChange 0 .opened) service) (· == service) = true ∧
    answers (exec (.rawLevelChange 0 .closed) service) (fun t => t.disc[0].debounce == some 20000) = true ∧
    answers (exec (.rawLevelChange 0 .opened) (settling 0 .closed service)) (fun t =>
      t.disc[0].debounce == none) = true := by and_intros <;> decide +kernel

theorem witness_DebounceExpirySettlesLine :
    (∀ s ∈ [settling 0 .opened parked, settling 0 .closed stopsNow], SettingsLaw s ∧ s.store.live ≠ [] ∧
      NoticesTaken s ∧ s.disc[0].debounce ≠ none ∧ s.pto.state = .disengaged) ∧
    answers (exec (.debounceExpiry 0) (settling 0 .opened parked)) (·.ilk.mode == .road) = true ∧
    answers (exec (.debounceExpiry 0) ((settling 0 .closed stopsNow).modRoad fun r =>
      { r with standstill := true })) (·.ilk.mode == .parked) = true := by and_intros <;> decide +kernel

/-- The other readers of a settled line: QUALIFY, ROLL, entries 7, 2 and 0, and entry 16 on D8. -/
def onD8 : State := setItem 256 8 pumping

theorem witness_DebounceExpirySettlesLine_readers :
    (∀ s ∈ [settling 0 .opened qualifying, settling 0 .closed rolling, settling 0 .opened pumping,
        settling 1 .opened qualifying, settling 2 .closed parked, settling 3 .closed stopped, settling 8 .closed onD8],
      PtoSound s ∧ NoticesTaken s ∧ s.store.live ≠ []) ∧
    answers (exec (.debounceExpiry 0) (settling 0 .opened qualifying)) (fun t =>
      t.pto.failing == some .parkBrake && t.pto.hold == none && t.ilk.mode == .parked) = true ∧
    answers (exec (.debounceExpiry 0) (settling 0 .closed rolling)) (fun t =>
      t.ilk.mode == .pump && t.ilk.entries[7].state == .clear) = true ∧
    answers (exec (.debounceExpiry 0) (settling 0 .opened pumping)) (·.ilk.entries[7].state == .pending) = true ∧
    answers (exec (.debounceExpiry 1) (settling 1 .opened qualifying)) (·.pto.failing == some .neutral) = true ∧
    answers (exec (.debounceExpiry 2) (settling 2 .closed parked)) (fun t =>
      t.ilk.entries[2] == ⟨.pending, some 500000, false⟩) = true ∧
    answers (exec (.debounceExpiry 3) (settling 3 .closed stopped)) (fun t =>
      t.ilk.entries[0].state == .held && t.out.hold) = true ∧
    answers (exec (.debounceExpiry 8) (settling 8 .closed onD8)) (fun t =>
      t.ilk.active == [16] && t.ilk.entries[17].state == .clear) = true := by and_intros <;> decide +kernel

/-! ## Witnesses: full reset, start-up and lockouts -/

theorem witness_ResetHoldsThePart :
    (Instr.brownOut = .brownOut ∨ Instr.brownOut = .resetPinAssert) ∧
    pumping.store.snapshot = none ∧
    ((pumping.modStore fun m => { m with snapshot := some [] }).store.snapshot ≠ none) ∧
    answers (exec .brownOut (pumping.modStore fun m => { m with snapshot := some [] })) (fun t =>
      t.store.image.crc != imageCrc t.store.image.vals) = true ∧
    answers (exec .supplyHoldExpiry (State.reset.modCtl fun _ => ⟨true, some 0, true, .held⟩)) (fun t =>
      t.ctl == ⟨true, none, true, .held⟩) = true ∧
    answers (exec .resetPinRelease (State.reset.modCtl fun _ => ⟨true, some 1, true, .held⟩)) (fun t =>
      t.ctl == ⟨true, some 1, false, .held⟩) = true := by and_intros <;> decide +kernel

/-- The load of an image, and the image of the defaults with its check. -/
def loadOf (img : NvImage) : State := loading.modStore fun m => { m with image := img }
def defaultImage : NvImage := imageOf (defaultTable.map (·.2))

theorem test_default_image_is_good : imageGood defaultImage = true := by
  have h1 : ((defaultTable.map (·.2)).length == itemNumbers.length) = true := by decide +kernel
  have h2 : tableInRange (itemNumbers.zip (defaultTable.map (·.2))) = true := by decide +kernel
  have h3 : tableRelated (itemNumbers.zip (defaultTable.map (·.2))) = true := by decide +kernel
  simp only [defaultImage, imageGood, imageOf, imageTable, beq_self_eq_true, h1, h2, h3, Bool.and_self]

theorem held_loadOf (img : NvImage) : HeldLaw (loadOf img) := by
  intro _
  refine ⟨rfl, rfl, rfl, fun n => ?_, rfl, rfl, rfl, rfl, rfl, fun n => ?_, rfl, rfl, rfl⟩ <;>
    fin_cases n <;> rfl

theorem witness_LoadBeginsService :
    (∀ img ∈ [State.reset.store.image, defaultImage], HeldLaw (loadOf img) ∧ (loadOf img).ctl.startup = .loading) ∧
    imageGood (loadOf defaultImage).store.image = true ∧ imageGood loading.store.image = false :=
  ⟨fun img _ => ⟨held_loadOf img, rfl⟩, test_default_image_is_good, by decide +kernel⟩

/-- The state with the park brake released, and with defaults in use. -/
def unbraked : State := pumping.modSwitch 0 (switchAt .opened false)
def onDefaults : State := service.modStore fun m => { m with defaultsInUse := true }

/-- Each branch of the re-judgment. -/
theorem witness_JudgmentMovesEntry :
    (effective onDefaults 13 = true ∧ entryDelay onDefaults 13 = 0 ∧ (judge 13 onDefaults).ilk.active = [13]) ∧
    (effective unbraked 7 = true ∧ (judge 7 unbraked).ilk.entries[7] = ⟨.pending, some 1000000, false⟩) ∧
    (judge 13 (listed 13 .held onDefaults)).ilk.entries[13].state = .active ∧
    (judge 7 (pumping.modEntry 7 fun _ => ⟨.pending, some 1, false⟩)).ilk.entries[7] = ⟨.clear, none, false⟩ ∧
    (judge 13 (listed 13 .active service)).ilk.entries[13].state = .held ∧
    (judge 7 (listed 7 .active pumping)).ilk.active = [] := by and_intros <;> decide +kernel

/-- The governor that runs is forced to IDLE by entry 3, and entry 5 releases in ROLL. -/
def slipped : State := ((governing .speed 1800 1800 500).modEntry 3 fun _ => ⟨.pending, some 0, false⟩).modPto
  fun p => { p with slip := true }

theorem witness_EntryDelayExpiryJoins :
    (∀ s ∈ [slipped, overspeed], NoticesTaken s ∧ DutyLaw s) ∧
    slipped.ilk.entries[3].state = .pending ∧ (entryActions slipped 3).releasePto = false ∧
    (entryActions slipped 3).inhibitPto = false ∧
    answers (exec (.entryDelayExpiry 3) slipped) (fun t =>
      t.gov.state == .idle && t.gov.demand == some 750) = true ∧
    overspeed.ilk.entries[5].state = .pending ∧ overspeed.ilk.mode = .roll ∧ overspeed.pto.state = .engaged ∧
    overspeed.cfgN 78 < overspeed.pulse.eng.rate ∧
    answers (exec (.entryDelayExpiry 5) pumping) (· == pumping) = true := by and_intros <;> decide +kernel

/-- Entry 16 with INHIBIT_PTO about to join, in each state that it answers and in ENGAGED, which it leaves. -/
def inhibiting (s : State) : State := (setItem 258 34 s).modEntry 16 fun _ => ⟨.pending, some 0, false⟩

theorem witness_EntryDelayExpiryJoins_pto :
    (∀ s ∈ [overspeed, inhibiting qualifying, inhibiting engaging, inhibiting pumping], NoticesTaken s ∧ DutyLaw s) ∧
    (∀ s ∈ [overspeed, inhibiting qualifying, inhibiting engaging, inhibiting pumping], PtoSound s) ∧
    (∀ s ∈ [overspeed, inhibiting qualifying, inhibiting engaging, inhibiting pumping], PtoTaken s) ∧
    answers (exec (.entryDelayExpiry 16) (inhibiting qualifying)) (fun t =>
      t.pto == ptoDisengaged (some .lockout) && t.ilk.active == [16]) = true ∧
    answers (exec (.entryDelayExpiry 16) (inhibiting engaging)) (fun t =>
      t.pto == ptoDisengaged none) = true ∧
    answers (exec (.entryDelayExpiry 16) (inhibiting pumping)) (fun t =>
      t.pto == ptoEngaged && t.ilk.active == [16]) = true := by and_intros <;> decide +kernel

theorem witness_RollIsEnteredAndLeft :
    (∀ s ∈ [cabPump, pumping, rolling], Receives hB s ∧ StopTaken s ∧ SettingsLaw s ∧
      DutyLaw s ∧ WorkLaw s ∧ ModeLaw s) ∧
    resultOf (.enterRoll hB) .b pumping = some 19 ∧
    resultOf (.enterRoll hA) .a pumping = some 20 ∧
    resultOf (.enterRoll hB) .b rolling = some 0 ∧
    resultOf (.enterRoll hB) .b (setItem 60 0 cabPump) = some 20 ∧
    answers (exec (.enterRoll hB) cabPump) (·.ilk.mode == .roll) = true ∧
    resultOf (.leaveRoll hS) .a rolling = some 20 ∧
    resultOf (.leaveRoll hA) .a pumping = some 0 ∧
    resultOf (.leaveRoll hA) .a (rolling.modRoad fun r => { r with standstill := false }) = some 20 ∧
    answers (exec (.leaveRoll hA) rolling) (·.ilk.mode == .pump) = true := by and_intros <;> decide +kernel

theorem witness_AcknowledgeClearsHeldEntries :
    Receives hA stopHeld ∧
    resultOf (.acknowledgeLockout hA 32) .a stopHeld = some 18 ∧
    resultOf (.acknowledgeLockout hA 254) .a stopHeld = some 18 ∧
    resultOf (.acknowledgeLockout hA 0) .a stopped = some 20 ∧
    resultOf (.acknowledgeLockout hA 31) .a stopHeld = some 0 ∧
    answers (exec (.acknowledgeLockout hA 0) stopHeld) (·.ilk.active == []) = true ∧
    replied (.acknowledgeLockout hA 255) .a stopHeld = some (0, [1]) ∧
    (stopHeld.out.hold = true ∧ DiagLaw stopHeld ∧ DutyLaw stopHeld) := by and_intros <;> decide +kernel

/-- A hold that ends on a FAULT_OPEN line after two retries, which begins the third, and with MANUAL filling. -/
def holdEnds : State := ((stopHeld.modLine 3 fun l => { l with
  commanded := true, kept := some false, diag := .faultOpen, retryCount := 2 }).modLine 4 fun l =>
  { l with commanded := true }).modTank fun m => { m with fillMode := .manual }

theorem test_hold_end_resumes : DiagLaw holdEnds ∧ answers (exec (.acknowledgeLockoutAll hA) holdEnds) (fun t =>
    t.out.lines[3].retryCount == 3 && t.out.lines[3].retryPhase == some .offPhase && t.out.lines[4].effective &&
    t.tank.fillWindow == some ⟨0, 30000000⟩) = true := by and_intros <;> decide +kernel

theorem witness_AlarmSoundsUntilSilenced :
    Receives hA faulted ∧ faulted.ilk.cadence ≠ none ∧ pumping.ilk.cadence = none ∧
    answers (exec (.silenceAlarm hA) faulted) (fun t =>
      t.ilk.entries[1].silenced && !t.out.lines[alarmLine].commanded) = true := by and_intros <;> decide +kernel

/-! ## Witnesses: power take-off -/

/-- Each case of R57, and the last condition of R58 at its limit of 900 rpm. -/
theorem witness_PtoEngageIsJudged :
    (∀ s ∈ [parked, service, pumping, qualifying, faulted], Receives hA s ∧ PtoLaw s) ∧
    resultOf (.ptoEngage hS) .a parked = some 20 ∧
    resultOf (.ptoEngage hA) .a service = some 19 ∧
    resultOf (.ptoEngage hA) .a (faulted.modPto fun _ => ptoDisengaged none) = some 22 ∧
    resultOf (.ptoEngage hA) .a pumping = some 0 ∧
    resultOf (.ptoEngage hA) .a qualifying = some 21 ∧
    resultOf (.ptoEngage hA) .a (parked.modIlk fun k => { k with mode := .road }) = some 20 ∧
    resultOf (.ptoEngage hA) .a (parked.modLine 0 fun l => { l with diag := .faultOpen }) = some 20 ∧
    answers (exec (.ptoEngage hA) (parked.modPulse fun p => { p with eng := ⟨[0], 900, some 1⟩ })) (fun t =>
      t.pto.state == .qualify && t.pto.hold == some 1000000) = true ∧
    answers (exec (.ptoEngage hA) (parked.modPulse fun p => { p with eng := ⟨[0], 901, some 1⟩ })) (fun t =>
      t.pto.failing == some .engineSpeed && t.pto.hold == none) = true := by and_intros <;> decide +kernel

theorem witness_PtoReleaseAndClearAreJudged :
    (∀ s ∈ [parked, pumping, qualifying, engaging, faulted], Receives hA s ∧ StopTaken s ∧ ModeLaw s ∧
      QualifyLaw s) ∧
    resultOf (.ptoRelease hS) .a pumping = some 20 ∧
    resultOf (.ptoRelease hA) .a parked = some 0 ∧
    answers (exec (.ptoRelease hA) qualifying) (·.pto == ptoDisengaged (some .released)) = true ∧
    answers (exec (.ptoRelease hA) engaging) (·.pto == ptoDisengaged none) = true ∧
    answers (exec (.ptoRelease hA) pumping) (·.pto.stage == some .drop) = true ∧
    resultOf (.clearPtoFault hS) .a faulted = some 20 ∧
    resultOf (.clearPtoFault hA) .a parked = some 0 ∧
    resultOf (.clearPtoFault hA) .a (faulted.modSwitch 2 (switchAt .closed true)) = some 20 ∧
    answers (exec (.clearPtoFault hA) faulted) (·.pto.state == .disengaged) = true := by
  and_intros <;> decide +kernel

/-- QUALIFY with confirmation standing, at the threshold of 699 rpm of section 12.1. -/
def meshed (pump : Nat) : State := (qualifying.modSwitch 2 (switchAt .closed true)).modPulse fun p =>
  { p with pump := ⟨[0], pump, some 1⟩ }

theorem witness_QualifyEndsAtFirstExpiry :
    (∀ s ∈ [qualifying, parked, meshed 699, meshed 698], NoticesTaken s ∧ PtoLaw s ∧ QualifyLaw s ∧ StopTaken s ∧
      GovernorStateLaw s ∧ SettingsLaw s) ∧
    parked.pto.window = none ∧ parked.pto.hold = none ∧ qualifying.pto.window ≠ none ∧
    qualifying.pto.hold ≠ none ∧
    answers (exec .windowTimerExpiry qualifying) (·.pto == ptoDisengaged (some .notHeld)) = true ∧
    answers (exec .holdTimerExpiry (meshed 699)) (fun t =>
      t.pto == ptoEngaged && t.ilk.mode == .pump) = true ∧
    answers (exec .holdTimerExpiry (meshed 698)) (·.pto.state == .engaging) = true := by
  and_intros <;> decide +kernel

theorem witness_PtoTimersEndTheirStages :
    (∀ s ∈ [engaging, releasing .spinDown, releasing .drop, parked], NoticesTaken s ∧ PtoLaw s ∧ ModeLaw s ∧
      QualifyLaw s ∧ StopTaken s) ∧
    engaging.pto.confirm ≠ none ∧ parked.pto.confirm = none ∧
    (releasing .spinDown).pto.stage = some .spinDown ∧ (releasing .drop).pto.stage = some .drop ∧
    answers (exec .spinDownTimerExpiry ((releasing .spinDown).modSwitch 2 (switchAt .opened false))) (fun t =>
      t.pto == ptoDisengaged none && t.ilk.mode == .parked) = true := by and_intros <;> decide +kernel

/-- Each case of a publication of PTO_CONFIRM. -/
theorem witness_ConfirmationMovesPto :
    (∀ s ∈ [confirming, settling 2 .opened pumping, settling 2 .opened (releasing .drop), settling 2 .opened parked],
      NoticesTaken s ∧ PtoLaw s ∧ QualifyLaw s ∧ StopTaken s ∧ GovernorStateLaw s ∧ SettingsLaw s ∧
      s.store.live ≠ [] ∧ s.disc[2].debounce ≠ none) ∧
    answers (exec (.debounceExpiry 2) confirming) (·.pto == ptoEngaged) = true ∧
    answers (exec (.debounceExpiry 2) (settling 2 .opened pumping)) (·.pto == ptoFault .confirmLost) = true ∧
    answers (exec (.debounceExpiry 2) (settling 2 .opened (releasing .drop))) (·.pto == ptoDisengaged none) = true ∧
    answers (exec (.debounceExpiry 2) (settling 2 .opened parked)) (·.pto == parked.pto) = true := by
  and_intros <;> decide +kernel

/-- A stop settles with TANK_VALVE and FILL_VALVE on, both in use KEEP, and the water class FULL or not. -/
def keeping (c : TankClass) : State := settling 3 .opened (((pumping.modLine 3 (lineAt true)).modLine 4
  (lineAt true)).modTank fun m => { m with fillMode := .manual, water := { m.water with cls := c } })

/-- DRIVE_EN and THR_LIMIT, which no block commands in the event, keep their levels of off too. -/
theorem witness_PumpStopBeginsHold_kept :
    (∀ s ∈ [keeping .normal, keeping .full], NoticesTaken s ∧ PtoLaw s ∧ ModeLaw s ∧ QualifyLaw s ∧
      GovernorStateLaw s ∧ s.disc[3].debounce ≠ none ∧ s.disc[3].raw = .opened ∧
      s.ilk.entries[0].state = .clear) ∧
    LineLaw (keeping .normal) ∧ DiagLaw (keeping .normal) ∧ DriveLaw (keeping .normal) ∧
    (keeping .normal).ctl.startup = .running ∧ (keeping .normal).out.hold = false ∧
    answers (exec (.debounceExpiry 3) (keeping .normal)) (fun t =>
      (allLines.map fun n => t.out.lines[n].kept) == [none, some false, some false, some true, some true, none,
        none, none, none, none] && t.out.lines[4].commanded && t.tank.fillMode == .manual) = true ∧
    answers (exec (.debounceExpiry 3) (keeping .full)) (fun t =>
      t.out.lines[3].kept == some true && t.out.lines[4].kept == some false && !t.out.lines[4].effective &&
      !t.out.lines[4].commanded && t.tank.fillMode == .off) = true := by and_intros <;> decide +kernel

theorem witness_PumpStopBeginsHold :
    (∀ s ∈ [settling 3 .opened pumping, settling 3 .opened qualifying, settling 3 .opened parked],
      NoticesTaken s ∧ PtoLaw s ∧ ModeLaw s ∧ QualifyLaw s ∧ GovernorStateLaw s ∧ s.disc[3].debounce ≠ none ∧
      s.disc[3].raw = .opened ∧ s.ilk.entries[0].state = .clear) ∧
    answers (exec (.debounceExpiry 3) (settling 3 .opened pumping)) (fun t =>
      t.pto.stage == some .drop && t.out.hold) = true ∧
    answers (exec (.debounceExpiry 3) (settling 3 .opened qualifying)) (fun t =>
      t.pto == ptoDisengaged (some .lockout)) = true ∧
    answers (exec (.debounceExpiry 3) (settling 3 .opened parked)) (fun t =>
      t.pto == parked.pto && t.out.hold) = true := by and_intros <;> decide +kernel

/-- O0 about to be found bad. -/
def badSolenoid (s : State) : State := s.modLine 0 fun l => { l with mismatch := some 0 }

theorem witness_SolenoidFaultMovesPto :
    (∀ s ∈ [badSolenoid pumping, badSolenoid qualifying, badSolenoid (releasing .spinDown), badSolenoid parked],
      NoticesTaken s ∧ PtoLaw s ∧ ModeLaw s ∧ QualifyLaw s ∧ StopTaken s) ∧
    (∀ s ∈ [badSolenoid pumping, badSolenoid qualifying, badSolenoid (releasing .spinDown), badSolenoid parked],
      DiagLaw s ∧ s.out.lines[ptoSol].diag = .ok ∧ s.out.lines[ptoSol].mismatch ≠ none) ∧
    answers (exec (.mismatchTimerExpiry 0) (badSolenoid pumping)) (fun t =>
      t.pto == ptoFault .solenoidFault && t.ilk.mode == .parked) = true ∧
    answers (exec (.mismatchTimerExpiry 0) (badSolenoid qualifying)) (fun t =>
      t.pto == ptoDisengaged (some .solenoid)) = true ∧
    answers (exec (.mismatchTimerExpiry 0) (badSolenoid (releasing .spinDown))) (·.pto.stage == some .drop) = true ∧
    answers (exec (.mismatchTimerExpiry 0) (badSolenoid parked)) (·.pto == parked.pto) = true := by
  and_intros <;> decide +kernel

/-! ## Witnesses: governor -/

/-- Each case of R78, and a setpoint at the end of its range. -/
theorem witness_SetGovernorIsJudged :
    (∀ s ∈ [pumping, parked, updating 1500 880 150, stopped], Receives hA s) ∧
    resultOf (.setGovernor hA 0 0) .a pumping = some 18 ∧
    resultOf (.setGovernor hA 4 0) .a pumping = some 18 ∧
    resultOf (.setGovernor hS 1 0) .a pumping = some 20 ∧
    resultOf (.setGovernor hB 3 1200) .b pumping = some 19 ∧
    resultOf (.setGovernor hA 1 0) .a parked = some 20 ∧
    resultOf (.setGovernor hA 3 1200) .a stopped = some 20 ∧
    resultOf (.setGovernor hA 2 1000) .a pumping = some 20 ∧
    replied (.setGovernor hA 2 1700) .a (updating 1500 880 150) = some (0, [6, 164]) ∧
    replied (.setGovernor hA 2 1701) .a (updating 1500 880 150) = some (1, [6, 164]) ∧
    replied (.setGovernor hA 3 0xFFFF) .a pumping = some (1, [2, 238]) ∧
    replied (.setGovernor hB 1 7) .b pumping = some (0, [0, 0]) := by and_intros <;> decide +kernel

theorem witness_GovernorUpdateMovesDemand :
    (∀ s ∈ [parked, governing .idle 0 1600 433, governing .speed 1800 1400 366, updating 1600 1250 150,
      updating 1600 1200 150], DutyLaw s) ∧
    answers (exec .updateTimerExpiry parked) (· == parked) = true ∧
    answers (exec .updateTimerExpiry (governing .idle 0 1600 433)) (·.gov.demand == some 1500) = true ∧
    answers (exec .updateTimerExpiry (governing .speed 1800 1400 366)) (fun t =>
      t.gov.demand == some 1440 && t.gov.duty == 380) = true ∧
    answers (exec .updateTimerExpiry (updating 1600 1250 150)) (fun t =>
      t.gov.demand == some 1500 && t.gov.overpressure) = true ∧
    answers (exec .updateTimerExpiry (updating 1600 1200 150)) (fun t =>
      t.gov.demand == some 1550 && !t.gov.overpressure) = true := by and_intros <;> decide +kernel

theorem witness_PeriodEndBeginsNextPeriod :
    pumping.cfgN 101 < 8 ∧ (setItem 101 7 pumping).cfgN 101 < 8 ∧ (setItem 101 0 pumping).cfgN 101 < 8 ∧
    answers (exec .pwmPeriodEnd (setItem 101 0 pumping)) (·.pwm.left == some 10000) = true ∧
    answers (exec .pwmPeriodEnd (setItem 101 7 pumping)) (·.pwm.left == some 1000) = true := by
  and_intros <;> decide +kernel

/-! ## Witnesses: tanks -/

/-- The draining tank one reading short of W1's DRY (section 5.5, expiry m+5). -/
def drained : State := draining.modTank fun m => { m with
  water := { m.water with vf := some 424 }, probes := m.probes.set 0 ⟨41, .wet, true, some .dry, 4, none⟩ }

theorem witness_LevelExpiryJudgesProbes :
    (∀ s ∈ [draining, drained, drained.modAnalog fun a => { a with supplyLow := true }],
      NoticesTaken s ∧ s.tank.levelTimer ≠ none) ∧
    answers (exec (.levelTimerExpiry #v[60, 9, 9, 9, 9, 9]) drained) (fun t =>
      t.tank.probes[0].state == .wet && t.tank.probes[0].run == 0) = true ∧
    answers (exec (.levelTimerExpiry #v[59, 9, 9, 9, 9, 9]) drained) (·.tank.probes[0].state == .dry) = true ∧
    answers (exec (.levelTimerExpiry #v[255, 9, 9, 9, 9, 9]) drained) (fun t =>
      t.tank.probes[0].candidate == some .fault && t.tank.probes[0].run == 1) = true ∧
    answers (exec (.levelTimerExpiry #v[59, 9, 9, 9, 9, 9]) (drained.modAnalog fun a =>
      { a with supplyLow := true })) (fun t =>
      t.tank.probes[0].state == .wet && t.tank.probes[0].reading == 41) = true := by and_intros <;> decide +kernel

theorem witness_LevelExpiryJudgesTanks :
    NoticesTaken drained ∧ SettingsLaw drained ∧ drained.tank.levelTimer ≠ none ∧
    answers (exec (.levelTimerExpiry #v[35, 9, 9, 9, 9, 9]) drained) (fun t =>
      t.tank.water.vf == some 423 && t.tank.water.vrep == 150 && t.tank.water.status == .clamped &&
      t.tank.water.cls == .reserve) = true ∧
    answers (exec (.levelTimerExpiry #v[72, 9, 9, 9, 9, 9]) (draining.modTank fun m => { m with
      water := { m.water with tableValid := false } })) (fun t =>
      t.tank.water.status == .unknown && t.tank.water.reason == some .table && t.tank.water.vrep == 430) = true ∧
    answers (exec (.levelTimerExpiry #v[72, 9, 9, 9, 9, 9]) (draining.modAnalog fun a => { a with
      hwt := { a.hwt with valid := false } })) (fun t =>
      t.tank.water.status == .probesOnly && t.tank.water.vrep == 458) = true := by and_intros <;> decide +kernel

/-- The window of section 6.7 at its close, with Vrep about to be found at 2190 or 2250. -/
def closing (head : Int) (vrep : Int) : State := (draining.modAnalog fun a => { a with
    hwt := { a.hwt with value := head } }).modTank (fun m => { m with
  water := { m.water with vf := some vrep, vrep := vrep, cls := .normal }
  recon := some ⟨2400, 5000⟩, probes := m.probes.map fun p => { p with judged := false } })
  |>.modLine 3 (lineAt true) |>.modPulse fun p => { p with flowCount := 2602 }

theorem witness_FlowCheckClosesWindow :
    (∀ s ∈ [closing 1045 2190, closing 1075 2250], NoticesTaken s ∧ s.tank.levelTimer ≠ none ∧ 0 < s.cfgN 207) ∧
    answers (exec (.levelTimerExpiry #v[72, 9, 9, 9, 9, 9]) (closing 1045 2190)) (fun t =>
      t.tank.recon == some ⟨2190, 5204⟩ && t.links.a.queue.all (·.key != .flowCheck)) = true ∧
    answers (exec (.levelTimerExpiry #v[72, 9, 9, 9, 9, 9]) (closing 1075 2250)) (fun t =>
      t.tank.recon == some ⟨2250, 5204⟩ && t.links.a.queue.any (· == ⟨.flowCheck, ⟨0, 54, 204⟩, false⟩)) = true := by
  and_intros <;> decide +kernel

/-- The tank valve opened on a tank in RESERVE, and closed with entry 8 ACTIVE. -/
def reserve : State := pumping.modTank fun m => { m with water := { m.water with cls := .reserve } }
def drawing : State := (listed 8 .active reserve).modLine 3 (lineAt true)

theorem witness_TankValveIsJudged :
    (∀ s ∈ [pumping, reserve, drawing, priming none], Receives hA s) ∧
    resultOf (.tankValve hA 2) .a pumping = some 18 ∧
    resultOf (.tankValve hS 1) .a pumping = some 20 ∧
    resultOf (.tankValve hB 1) .b pumping = some 19 ∧
    resultOf (.tankValve hA 1) .a (priming none) = some 20 ∧
    resultOf (.tankValve hB 0) .b pumping = some 0 ∧
    reserve.ilk.entries[8].state = .clear ∧
    answers (exec (.tankValve hA 1) reserve) (·.ilk.active == [8]) = true ∧
    answers (exec (.tankValve hB 0) drawing) (·.ilk.active == []) = true ∧
    answers (exec (.tankValve hA 1) (pumping.modTank fun m => { m with
      levelVrep := 2400, sessionTotal := 5000, water := { m.water with status := .normal, vrep := 2300 } })) (fun t =>
      t.tank.recon == some ⟨2400, 5000⟩) = true := by and_intros <;> decide +kernel

theorem witness_FoamPumpIsJudged :
    (∀ s ∈ [pumping, parked], Receives hA s) ∧
    resultOf (.foamPump hA 2) .a pumping = some 18 ∧
    resultOf (.foamPump hS 0) .a pumping = some 20 ∧
    resultOf (.foamPump hB 1) .b pumping = some 19 ∧
    resultOf (.foamPump hB 0) .b pumping = some 0 ∧
    resultOf (.foamPump hA 1) .a parked = some 20 ∧
    answers (exec (.foamPump hB 0) (pumping.modLine 8 (lineAt true))) (fun t =>
      !t.out.lines[8].commanded) = true := by and_intros <;> decide +kernel

theorem witness_FillIsSetAndFails :
    (∀ s ∈ [pumping, filling, stopped], Receives hA s ∧ NoticesTaken s) ∧
    resultOf (.setFillMode hA 3) .a pumping = some 18 ∧
    resultOf (.setFillMode hS 0) .a pumping = some 20 ∧
    resultOf (.setFillMode hB 0) .b pumping = some 19 ∧
    answers (exec (.setFillMode hA 1) pumping) (fun t =>
      t.tank.fillMode == .manual && t.out.lines[4].commanded) = true ∧
    answers (exec (.setFillMode hA 1) (pumping.modTank fun m => { m with water := { m.water with cls := .full } }))
      (fun t => t.tank.fillMode == .off && !t.out.lines[4].commanded) = true ∧
    answers (exec (.setFillMode hA 0) filling) (fun t =>
      t.tank.fillWindow == none && !t.out.lines[4].commanded) = true ∧
    answers (exec (.setFillMode hA 1) stopped) (fun t =>
      t.tank.fillWindow == none && t.out.lines[4].commanded && !t.out.lines[4].effective) = true ∧
    pumping.tank.fillWindow = none ∧ filling.tank.fillWindow ≠ none := by and_intros <;> decide +kernel

/-- AUTO filling whose window reaches its rise of 20 L at 428 L from 408 and not from 409; and a supply that INT
shows at 100 kPa, the external supply's limit, and not at 99. -/
def risen (start : Int) : State := (draining.modTank fun m => { m with
  fillMode := .auto, external := true, fillWindow := some ⟨start, 5⟩ }).modLine 4 (lineAt true)
def supplied (v : Nat) : State := (pumping.modTank fun m => { m with
    fillMode := .auto, levelVrep := 2000 }).modAnalog fun a => { a with
  int := ⟨[BitVec.ofNat 12 v, BitVec.ofNat 12 v, BitVec.ofNat 12 v], v, 0, true, 0, 3, false⟩ }

theorem witness_FillIsSetAndFails_expiries :
    (∀ s ∈ [risen 408, risen 409, supplied 796], NoticesTaken s ∧ s.tank.levelTimer ≠ none ∧
      s.analog.sampleTimer ≠ none) ∧
    answers (exec (.levelTimerExpiry #v[72, 9, 9, 9, 9, 9]) (risen 408)) (fun t =>
      t.tank.fillWindow == some ⟨428, 30000000⟩) = true ∧
    answers (exec (.levelTimerExpiry #v[72, 9, 9, 9, 9, 9]) (risen 409)) (fun t =>
      t.tank.fillWindow == some ⟨409, 5⟩) = true ∧
    answers (exec (.sampleTimerExpiry ⟨0, 796, 0, 0, 1200, 1600⟩) (supplied 796)) (fun t =>
      t.analog.int.value == 100 && t.tank.external && t.out.lines[4].commanded &&
      t.tank.fillWindow == some ⟨2000, 30000000⟩) = true ∧
    answers (exec (.sampleTimerExpiry ⟨0, 795, 0, 0, 1200, 1600⟩) (supplied 795)) (fun t =>
      t.analog.int.value == 99 && !t.tank.external && !t.out.lines[4].commanded) = true := by
  and_intros <;> decide +kernel

/-- A table write has moved Vrep to 1990 L since the level expiry at 2001 L: a supply that arrives finds 2001, and an
AUTO that is asked for finds 1990; a valve that opens then starts from 2001, and one that stays open from 1990. -/
theorem witness_FillIsSetAndFails_moved :
    let moved (s : State) : State := s.modTank fun m => { reported 1990 m with levelVrep := 2001 }
    NoticesTaken (moved (supplied 796)) ∧ (moved (supplied 796)).analog.sampleTimer ≠ none ∧
    answers (exec (.sampleTimerExpiry ⟨0, 796, 0, 0, 1200, 1600⟩) (moved (supplied 796))) (fun t =>
      t.tank.external && !t.out.lines[4].commanded) = true ∧
    Receives hA (moved filling) ∧
    answers (exec (.setFillMode hA 2) ((moved filling).modLine 4 (lineAt false))) (fun t =>
      t.out.lines[4].commanded && t.tank.fillWindow == some ⟨2001, 30000000⟩) = true ∧
    answers (exec (.setFillMode hA 2) (moved filling)) (fun t =>
      t.out.lines[4].commanded && t.tank.fillWindow == some ⟨1990, 30000000⟩) = true := by
  and_intros <;> decide +kernel

theorem witness_PrimerRunsAndEnds :
    (∀ s ∈ [pumping, priming none, parked], Receives hA s) ∧
    resultOf (.primerStart hS) .a pumping = some 20 ∧
    resultOf (.primerStart hB) .b pumping = some 19 ∧
    resultOf (.primerStart hA) .a (priming none) = some 0 ∧
    resultOf (.primerStart hA) .a parked = some 20 ∧
    resultOf (.primerStop hS) .a (priming none) = some 20 ∧
    resultOf (.primerStop hA) .a pumping = some 0 ∧
    (priming none).tank.priming = true ∧ (priming none).tank.primeTimer = none ∧
    (priming (some 0)).tank.primeTimer ≠ none ∧ (priming none).tank.runTimer ≠ none := by
  and_intros <;> decide +kernel

/-! ## Witnesses: output lines -/

/-- A line in its OFF_PHASE, and one in an ON_PHASE whose blank has ended. -/
def offPhase : State := coil fun l => { l with
  effective := false, diag := .faultOpen, retryCount := 1, retryPhase := some .offPhase, retry := some 0 }
def onPhase (n : Nat) : State := listed 12 .active (coil fun l => { l with
  diag := .faultOpen, retryCount := n, retryPhase := some .onPhase, mismatch := some 0 }) |> fun s =>
  (s.modIlk fun k => { k with cadence := some 1 }).modLine 7 (lineAt true)

theorem witness_ReadbackAndRetryAreTimed :
    pumping.ctl.startup = .running ∧ DiagLaw offPhase ∧ offPhase.out.lines[3].retry ≠ none ∧
    pumping.out.lines[3].retry = none ∧
    answers (exec (.readbackChange 3 false) pumping) (· == pumping) = true ∧
    answers (exec (.readbackChange 3 true) pumping) (·.out.lines[3].mismatch == some 100000) = true ∧
    answers (exec (.readbackChange 3 true) (onPhase 1)) (·.out.lines[3].mismatch == some 100000) = true ∧
    answers (exec (.readbackChange 3 true) offPhase) (·.out.lines[3].mismatch == none) = true ∧
    answers (exec (.blankTimerExpiry 3) pumping) (· == pumping) = true ∧
    answers (exec (.retryTimerExpiry 3) offPhase) (·.out.lines[3].effective) = true := by
  and_intros <;> decide +kernel

/-- Lines about to be found open, stuck on, good again, and bad at the second and the third retry. -/
def found (on : Bool) : State := pumping.modLine 3 fun l =>
  { l with commanded := on, effective := on, readback := !on, mismatch := some 0 }

theorem witness_MismatchMakesAndEndsFaults :
    (∀ s ∈ [found true, found false, onPhase 2, onPhase 3, pumping], NoticesTaken s ∧ DiagLaw s ∧ LineLaw s ∧
      AlarmLaw s ∧ LimitLaw s ∧ DriveLaw s ∧ s.ctl.startup = .running) ∧
    answers (exec (.mismatchTimerExpiry 3) (found true)) (·.out.lines[3].retryCount == 1) = true ∧
    answers (exec (.mismatchTimerExpiry 3) (found false)) (·.out.lines[3].diag == .faultStuckOn) = true ∧
    answers (exec (.mismatchTimerExpiry 3) (onPhase 2)) (·.out.lines[3].retryCount == 3) = true ∧
    answers (exec (.mismatchTimerExpiry 3) (onPhase 3)) (fun t =>
      t.out.lines[3].retryPhase == none && t.out.lines[3].diag == .faultOpen && t.out.lines[3].effective) = true ∧
    answers (exec (.mismatchTimerExpiry 3) pumping) (· == pumping) = true := by and_intros <;> decide +kernel

theorem witness_ClearOutputFaultsClears :
    Receives hA (onPhase 3) ∧ DiagLaw (onPhase 3) ∧
    replied (.clearOutputFaults hA) .a (onPhase 3) = some (0, [1]) ∧
    replied (.clearOutputFaults hS) .a pumping = some (0, [0]) := by and_intros <;> decide +kernel

/-! ## Witnesses: authority -/

/-- PANEL holds, CAB claims; and SERVICE holds on port A. -/
def claimed : State := pumping.modAuth fun a => { a with claimant := some .cab }
def served : State := parked.modAuth fun _ => ⟨some .service, some .panel, some .a, some 1, false⟩

theorem witness_TakeAuthorityIsJudged :
    (∀ s ∈ [pumping, parked, claimed, served, service], Receives hB s ∧ AuthorityLaw s) ∧
    resultOf (.takeAuthority hS) .a pumping = some 20 ∧
    resultOf (.takeAuthority hA) .a pumping = some 0 ∧
    resultOf (.takeAuthority hB) .b service = some 0 ∧
    resultOf (.takeAuthority hB) .b claimed = some 2 ∧
    resultOf (.takeAuthority hB) .b served = some 21 ∧
    resultOf (.takeAuthority hS) .a parked = some 2 := by and_intros <;> decide +kernel

theorem witness_YieldAuthorityPassesOn :
    (∀ s ∈ [pumping, claimed, served], Receives hA s ∧ AuthorityLaw s) ∧
    answers (exec (.yieldAuthority hA) claimed) (·.auth.holder == some .cab) = true ∧
    answers (exec (.yieldAuthority hA) pumping) (·.auth == ⟨none, none, none, none, false⟩) = true ∧
    answers (exec (.yieldAuthority hB) claimed) (fun t =>
      t.auth.holder == some .panel && t.auth.claimant == none) = true ∧
    answers (exec (.yieldAuthority hS) served) (fun t =>
      t.auth == ⟨some .panel, none, none, some 2000000, false⟩) = true ∧
    answers (exec (.yieldAuthority hB) pumping) (·.auth == pumping.auth) = true := by and_intros <;> decide +kernel

/-- CAB holds, lapsed, in ROLL, with entry 14 ACTIVE; its next frame asks for a Yield Authority. -/
def lapsed : State := (listed 14 .active rolling).modAuth fun a => { a with lapsed := true }

theorem witness_SilenceLapsesTheHolder_frame :
    wireOf (.yieldAuthority hB) = some (hB, 17, []) ∧ (lapsed.port hB.port).listening = true ∧
    (lapsed.port hB.port).transmitting = false ∧ NoticesTaken lapsed ∧
    lapsed.auth.holder = some (stationOf hB.port hB.origin) ∧ lapsed.auth.lapsed = true ∧
    answers (exec (.yieldAuthority hB) lapsed) (fun t => t.auth == ⟨none, none, none, none, false⟩ &&
      t.ilk.entries[14].state == .held && t.links.b.queue.map (·.key) == [.authority, .lockout 14] &&
      (t.links.b.reply.map (·.result)) == some 0) = true := by and_intros <;> decide +kernel

theorem witness_SilenceLapsesTheHolder :
    (∀ s ∈ [rolling, claimed, parked, service], NoticesTaken s ∧ AuthorityLaw s) ∧
    service.auth.silence = none ∧ rolling.ilk.mode = .roll ∧ rolling.ilk.entries[14].state = .clear ∧
    answers (exec .silenceTimerExpiry claimed) (fun t =>
      t.auth == ⟨some .cab, none, none, some 2000000, true⟩ && t.ilk.active == [14]) = true ∧
    ((rolling.modAuth fun a => { a with lapsed := true }).port .b).listening = true ∧
    (rolling.port .b).transmitting = false ∧
    answers (exec (.readStatus hB) lapsed) (fun t =>
      !t.auth.lapsed && t.ilk.entries[14].state == .held) = true := by and_intros <;> decide +kernel

/-! ## Witnesses: links and settings -/

/-- Port A with a partial frame. -/
def partway (f : List Byte) : State := pumping.modPort .a fun p => { p with frame := some f, gap := some 1 }

/-- A length of 1 or 25 ends a frame, and a length of 2 or 24 does not; nor does an address of another node. -/
theorem witness_PortTakesItsEvents :
    pumping.links.a.rateIndex < 4 ∧ State.reset.links.a.listening = false ∧ sending.links.a.transmitting = true ∧
    pumping.links.a.listening = true ∧ pumping.links.a.transmitting = false ∧
    answers (exec (.characterReceive .a 1 true false) sending) (· == sending) = true ∧
    answers (exec (.characterReceive .a 31 true false) pumping) (·.links.a.frame == some [31]) = true ∧
    answers (exec (.characterReceive .a 2 true false) pumping) (·.links.a.frame == none) = true ∧
    answers (exec (.characterReceive .a 1 false false) (partway [1])) (·.links.a.frame == none) = true ∧
    answers (exec (.characterReceive .a 25 false false) (partway [1])) (·.links.a.frame == none) = true ∧
    answers (exec (.characterReceive .a 2 false false) (partway [1])) (·.links.a.frame == some [1, 2]) = true ∧
    answers (exec (.characterReceive .a 24 false false) (partway [1])) (·.links.a.frame == some [1, 24]) = true ∧
    answers (exec (.characterReceive .a 24 false true) (partway [1])) (·.links.a.frame == none) = true ∧
    answers (exec (.characterReceive .a 0 false false) (partway [1, 2, 5, 1, 0])) (fun t =>
      t.links.a.frame == none && t.links.a.reply == none) = true ∧
    answers (exec (.gapTimerExpiry .a) pumping) (· == pumping) = true ∧
    answers (exec (.replyTransmitStart .a) pumping) (· == pumping) = true ∧
    answers (exec (.replyComplete .a) pumping) (· == pumping) = true := by and_intros <;> decide +kernel

/-- A port that holds all of a frame but its last character. -/
def almost (h : Header) (kind : Nat) (payload : List Byte) : State :=
  pumping.modPort h.port fun p => { p with frame := some (requestFrame 1 h kind payload).dropLast }

/-- A request, a kind that table 10.3 does not name, and a payload one character short, each whole. -/
theorem witness_FrameDecodesToItsRequest :
    wireOf (.setGovernor hB 3 1200) = some (hB, 40, [3, 4, 176]) ∧
    (∀ s ∈ [almost hB 40 [3, 4, 176], almost hB 7 [], almost hB 40 [3, 4]],
      (s.port .b).listening = true ∧ (s.port .b).transmitting = false ∧ (s.port .b).reply = none ∧
      (s.port .b).node ≠ 31 ∧ Receives hB s) ∧
    resultOf (.characterReceive .b ((requestFrame 1 hB 40 [3, 4, 176]).getLastD 0) false false) .b
      (almost hB 40 [3, 4, 176]) = some 19 ∧
    resultOf (.characterReceive .b ((requestFrame 1 hB 7 []).getLastD 0) false false) .b (almost hB 7 []) =
      some 16 ∧
    resultOf (.characterReceive .b ((requestFrame 1 hB 40 [3, 4]).getLastD 0) false false) .b
      (almost hB 40 [3, 4]) = some 17 ∧
    (State.reset.port .b).listening = false ∧ (sending.port .a).transmitting = true := by
  and_intros <;> decide +kernel

theorem witness_StatusAndMeasurementsAreRead :
    Receives hA pumping ∧ pumping.tank.sessionTotal < 4294967296 ∧
    (replied (.readMeasurements hA 1) .a pumping).map (·.2.length) = some 9 ∧
    (replied (.readMeasurements hA 2) .a pumping).map (·.2.length) = some 20 ∧
    (replied (.readMeasurements hA 3) .a pumping).map (·.2.length) = some 12 ∧
    (replied (.readMeasurements hA 2) .a (pumping.modTank fun m => { reported 0x0203 m with levelVrep := 7 })).map
      (fun r => (r.2.drop 2).take 2) = some [2, 3] ∧
    resultOf (.readMeasurements hA 4) .a pumping = some 18 ∧
    answers (exec (.readStatus ⟨.a, .operator, 5, true⟩) pumping) (·.links.a.reply == none) = true := by
  and_intros <;> decide +kernel

theorem witness_LockoutsAndSettingsAreRead :
    Receives hA crowded ∧
    (replied (.readEntry hA 31) .a pumping).map (·.1) = some 0 ∧
    resultOf (.readEntry hA 32) .a pumping = some 18 ∧
    343 ∈ itemNumbers ∧ 344 ∉ itemNumbers ∧ 0 ∉ itemNumbers ∧
    resultOf (.readSetting hA 343) .a pumping = some 0 ∧
    resultOf (.readSetting hA 344) .a pumping = some 18 := by and_intros <;> decide +kernel

theorem witness_FetchCarriesTheOldestReports :
    Receives hA queued ∧ Receives hA (pumping) ∧
    replied (.fetchReports hA) .a pumping = some (0, [0, 0]) ∧
    answers (exec (.fetchReports ⟨.a, .operator, 5, true⟩) queued) (fun t =>
      t.links.a.queue == queued.links.a.queue) = true := by and_intros <;> decide +kernel

theorem witness_LinkRestartBeginsAfresh :
    (∀ s ∈ [queued, claimed, served], Receives hA s ∧ AuthorityLaw s) ∧
    answers (exec (.linkRestart hA) claimed) (fun t => t.auth.holder == some .cab) = true ∧
    answers (exec (.linkRestart hB) claimed) (fun t =>
      t.auth.holder == some .panel && t.auth.claimant == none) = true ∧
    answers (exec (.linkRestart hA) served) (·.auth == ⟨none, none, none, none, false⟩) = true ∧
    answers (exec (.linkRestart hB) queued) (·.auth == queued.auth) = true := by and_intros <;> decide +kernel

/-- Each case of R167, and a write that each kind of owner takes. -/
theorem witness_WriteSettingIsJudged :
    (∀ s ∈ [parked, pumping], Receives hS s ∧ SettingsLaw s ∧ s.store.live ≠ [] ∧ ActiveLaw s ∧ StopTaken s) ∧
    resultOf (.writeSetting hA 1 100) .a parked = some 20 ∧
    resultOf (.writeSetting hS 0 100) .a parked = some 18 ∧
    resultOf (.writeSetting hS 74 1250) .a pumping = some 20 ∧
    resultOf (.writeSetting hS 1 19) .a pumping = some 18 ∧
    resultOf (.writeSetting hS 1 20) .a pumping = some 0 ∧
    resultOf (.writeSetting hS 102 76) .a pumping = some 18 ∧
    resultOf (.writeSetting hS 102 75) .a pumping = some 0 ∧
    answers (exec (.writeSetting hS 20 1) parked) (·.disc[0].debounce == some 20000) = true ∧
    answers (exec (.writeSetting hS 100 200) (updating 1500 880 150)) (·.gov.ps == 200) = true ∧
    answers (exec (.writeSetting hS 143 0) parked) (fun t => !t.tank.water.tableValid) = true ∧
    answers (exec (.writeSetting hS 223 1) parked) (·.out.lines[3].diag == .blank) = true ∧
    answers (exec (.writeSetting hS 223 1) (parked.modAnalog fun a => { a with supplyLow := true })) (fun t =>
      t.out.lines[3].diag == .blank && t.out.lines[3].blank == some 100000 && !t.out.lines[3].blankPending) = true ∧
    answers (exec (.writeSetting hS 223 0) (onPhase 1)) (·.out.lines[3].diag == .ok) = true ∧
    answers (exec (.writeSetting hS 256 8) (parked.modSwitch 8 (switchAt .closed true))) (fun t =>
      t.ilk.active == [16]) = true := by and_intros <;> decide +kernel

theorem witness_StoreWritesTheImage :
    Receives hA service ∧ Receives hS service ∧ NoticesTaken service ∧ service.store.snapshot = none ∧
    resultOf (.storeSettings hA) .a service = some 20 ∧
    resultOf (.storeSettings hS) .a (service.modStore fun m => { m with snapshot := some [] }) = some 21 ∧
    resultOf (.storeSettings hS) .a service = some 0 ∧
    answers (exec (.storeComplete (some ⟨[1], 2⟩)) ((listed 13 .active service).modStore fun m =>
      { m with defaultsInUse := true, snapshot := some [1] })) (fun t =>
      t.store.defaultsInUse && t.store.image == ⟨[1], 2⟩ && t.ilk.entries[13].state == .active &&
      t.links.a.queue == [⟨.settings, ⟨1, 0, 1⟩, false⟩]) = true := by and_intros <;> decide +kernel

end Sys2Proof.Tests
end

section
/-! PROOF. The machine's step, the settings as the blocks read them, and the commands that move one block alone. -/

namespace Sys2Proof.Machine

/-! ## The step -/

/-- Settles O1: it is the second branch of `step`. -/
theorem stepTakesFrontCommand : Obligations.StepTakesFrontCommand := fun _ _ _ => rfl

/-- Settles O2: the first branch of `step` is `elapse 1`, which names the same fields. -/
theorem idleStepPassesTime : Obligations.IdleStepPassesTime := by
  intro s hq
  have h : step s = .next (elapse 1 s) := by
    unfold step
    rw [hq]
  exact h.trans rfl

/-! ## The settings as the blocks read them -/

/-- The first entry under a key that a list of pairs holds. -/
theorem exists_lookup_of_mem_keys {i : Nat} {l : List (Nat × Half)} (h : i ∈ l.map (·.1)) :
    ∃ v, l.lookup i = some v ∧ (i, v) ∈ l := by
  induction l with
  | nil => simp at h
  | cons e l ih =>
    obtain ⟨j, w⟩ := e
    by_cases hij : i = j
    · subst hij
      exact ⟨w, by simp, by simp⟩
    · have hl : i ∈ l.map (·.1) := by simpa [hij] using h
      obtain ⟨v, hv, hm⟩ := ih hl
      exact ⟨v, by simp [List.lookup_cons, beq_false_of_ne hij, hv], by simp [hm]⟩

/-- No item past 343 has a row. -/
theorem itemSpec_eq_none_of_le {i : Nat} (h : 344 ≤ i) : itemSpec i = none := by
  unfold itemSpec linkItems
  simp only [show ¬ i < 20 by omega, show ¬ i < 32 by omega, show ¬ i < 40 by omega, show ¬ i < 52 by omega,
    show ¬ i < 60 by omega, show ¬ i < 70 by omega, show ¬ i < 90 by omega, show ¬ i < 110 by omega,
    show ¬ i < 140 by omega, show ¬ i < 170 by omega, show ¬ i < 200 by omega, show ¬ i < 210 by omega,
    show ¬ i < 220 by omega, show ¬ i < 230 by omega, show ¬ i < 240 by omega, show ¬ i = 240 by omega,
    show ¬ i < 256 by omega, show ¬ i < 336 by omega, show ¬ i < 340 by omega, if_false]
  exact List.getElem?_eq_none (by simp; omega)

/-- The items are the numbers with a row in the table (R166). -/
theorem mem_itemNumbers {i : Nat} : i ∈ itemNumbers ↔ (itemSpec i).isSome = true := by
  unfold itemNumbers
  rw [List.mem_filter, List.mem_range]
  refine and_iff_right_of_imp fun h => ?_
  by_contra hi
  rw [itemSpec_eq_none_of_le (by omega)] at h
  exact absurd h (by decide)

/-- In a filled table every item stands in its range or codes (R167). -/
theorem SettingsLaw.contains {s : State} (h : SettingsLaw s) (hl : s.store.live ≠ []) {i : Nat} {r : ItemSpec}
    (hr : itemSpec i = some r) : r.domain.contains (s.cfg i) = true := by
  obtain h | ⟨hk, hin, -⟩ := h
  · exact absurd h hl
  · have hi : i ∈ s.store.live.map (·.1) := by rw [hk, mem_itemNumbers, hr]; rfl
    obtain ⟨v, hv, hm⟩ := exists_lookup_of_mem_keys hi
    have := List.all_eq_true.1 hin _ hm
    simp only [hr] at this
    simpa [State.cfg, tableValue, hv] using this

/-- An unsigned item reads the same either way. -/
theorem State.cfg_eq_cfgN (s : State) {i : Nat} (h : i ≠ 98) : s.cfg i = (s.cfgN i : Int) := by
  simp [State.cfg, State.cfgN, itemValue, signedItem, h]

/-! ## The discrete inputs -/

/-- The polarity setting of a line but PUMP_STOP is 0 or 1 (R22). -/
theorem SettingsLaw.polarity {s : State} (h : SettingsLaw s) (hl : s.store.live ≠ []) {n : Fin 12} (hn : n ≠ 3) :
    s.cfg (20 + n.val) = 0 ∨ s.cfg (20 + n.val) = 1 := by
  have hr : itemSpec (20 + n.val) = some (liveItem 0 1 0) := by
    have : n.val ≠ 3 := fun e => hn (Fin.ext e)
    have := n.isLt
    unfold itemSpec
    rw [if_neg (by omega), if_pos (by omega), if_neg (by omega)]
  have := h.contains hl hr
  simp only [liveItem, Domain.contains, Bool.and_eq_true, decide_eq_true_eq] at this
  omega

/-- A raw level as the statements read it: PUMP_STOP is active while open, and polarity 1 inverts any other line. -/
theorem SettingsLaw.interpret_eq {s : State} (h : SettingsLaw s) (hl : s.store.live ≠ []) (n : Fin 12) (c : Contact) :
    interpret s n c =
      if n = 3 then c == .opened else if s.cfg (20 + n.val) = 1 then c == .opened else c == .closed := by
  unfold interpret
  by_cases hn : n = 3
  · simp [hn]
  · obtain hp | hp := h.polarity hl hn <;> simp [hn, hp]

/-- A line whose level or reading has changed, with its timer judged afresh (R22). -/
theorem rejudgeLine_modSwitch (n : Fin 12) (f : SwitchLine → SwitchLine) (s : State) :
    rejudgeLine n (s.modSwitch n f) = { s with disc := s.disc.set n { f s.disc[n] with
      debounce := if interpret s n (f s.disc[n]).raw = (f s.disc[n]).active then none
        else some (debounceTime s n) } } := by
  have hi : ∀ c, interpret (s.modSwitch n f) n c = interpret s n c := fun _ => rfl
  have ht : debounceTime (s.modSwitch n f) n = debounceTime s n := rfl
  unfold rejudgeLine
  simp only [hi, ht]
  simp [State.modSwitch, State.modDisc]

/-- Settles O20: in service the command is `rejudgeLine` on a settled line, and a fresh timer on any other. -/
theorem rawLevelChangeIsDebounced : Obligations.RawLevelChangeIsDebounced := by
  intro n c s hrun reads time hset hlive
  have hreads : interpret s n c = reads := hset.interpret_eq hlive n c
  have htime : debounceTime s n = time := by
    unfold debounceTime time ms
    split <;> rfl
  change execRawLevelChange n c s = _
  unfold execRawLevelChange
  split
  · rfl
  · have hin : s.inService = true := by simp [State.inService, hrun]
    have hr := rejudgeLine_modSwitch n (fun l => { l with raw := c }) s
    rw [hreads, htime] at hr
    cases hs : s.disc[n].settled
    · simp [hin, htime, State.modSwitch, State.modDisc]
    · simp only [hin, Bool.not_true, Bool.false_eq_true, if_false, if_true, hr, hs, Bool.true_and, beq_iff_eq]

/-! ## Full reset -/

/-- No value is its own complement. -/
theorem complement_ne (x : Half) : ~~~ x ≠ x := by
  intro h
  have := congrArg (·.getLsbD 0) h
  simp at this

/-- What the image is after full reset (R170). -/
theorem fullReset_image (s : State) :
    (fullReset s).store.image =
      if s.store.snapshot.isSome then corruptImage s.store.image else s.store.image := rfl

/-- A part in full reset holds its full-reset state, with its pins and its image as they were (R172). -/
theorem fullReset_held (s : State) (f : ResetControl → ResetControl) : HeldLaw ((fullReset s).modCtl f) := by
  intro _
  refine ⟨rfl, rfl, rfl, fun n => ?_, rfl, rfl, rfl, rfl, rfl, fun n => ?_, rfl, rfl, rfl⟩ <;>
    simp [fullReset]

/-- What both causes of full reset leave, whatever they do to the reset control. -/
theorem fullReset_leaves (s : State) (f : ResetControl → ResetControl) :
    let t := (fullReset s).modCtl f
    HeldLaw t ∧ t.pulse.timebase = 0 ∧ t.pwm = ⟨3, 50, some 4000⟩ ∧
      (t.road.phaseA, t.road.phaseB) = (s.road.phaseA, s.road.phaseB) ∧
      (∀ n : Fin 12, t.disc[n].raw = s.disc[n].raw) ∧
      (∀ n : Fin 10, t.out.lines[n].readback = s.out.lines[n].readback) ∧
      t.store.image.vals = s.store.image.vals ∧
      (s.store.snapshot = none → t.store.image = s.store.image) ∧
      (s.store.snapshot ≠ none → t.store.image.crc ≠ imageCrc t.store.image.vals) ∧
      t.pending = s.pending := by
  refine ⟨fullReset_held s f, rfl, rfl, rfl, fun n => ?_, fun n => ?_, ?_, fun h => ?_, fun h => ?_, rfl⟩
  · simp [fullReset]
  · simp [fullReset]
  · simp only [State.modCtl_store, fullReset_image]
    split <;> rfl
  · simp [fullReset_image, h]
  · rw [State.modCtl_store, fullReset_image, if_pos (Option.isSome_iff_ne_none.2 h)]
    exact complement_ne _

/-- Start-up begins where both holds have ended, and moves nothing but the reset control. -/
theorem beginStartup_modCtl (s : State) (f : ResetControl → ResetControl) :
    beginStartup (s.modCtl f) = { s with ctl := { f s.ctl with
      startup := if (f s.ctl).startup = .held ∧ (f s.ctl).supplyOk = true ∧ (f s.ctl).supplyHold = none ∧
        (f s.ctl).pinLow = false then .loading else (f s.ctl).startup } } := by
  unfold beginStartup
  split <;> rename_i h
  · rw [State.modCtl_ctl] at h
    rw [if_pos h]
    rfl
  · rw [State.modCtl_ctl] at h
    rw [if_neg h]
    rfl

/-- Settles O22: the two causes by `fullReset_leaves`, the two holds by `beginStartup_modCtl`. -/
theorem resetHoldsThePart : Obligations.ResetHoldsThePart := by
  refine ⟨?_, fun s => ⟨?_, ?_, ?_⟩⟩
  · rintro s c (rfl | rfl)
    · exact ⟨_, rfl, rfl, fullReset_leaves s _⟩
    · exact ⟨_, rfl, by rw [if_neg (by decide)]; rfl, fullReset_leaves s _⟩
  · change execSupplyRiseAbove6V s = _
    unfold execSupplyRiseAbove6V
    split <;> rfl
  · change execSupplyHoldExpiry s = _
    unfold execSupplyHoldExpiry
    cases hs : s.ctl.supplyHold <;> simp [beginStartup_modCtl]
  · change execResetPinRelease s = _
    unfold execResetPinRelease
    cases hs : s.ctl.pinLow <;> simp [beginStartup_modCtl]

end Sys2Proof.Machine
end

section
/-! PROOF. Every command answers a next state and leaves the queue of waiting commands (R1). -/

namespace Sys2Proof.Machine

/-! ## What `Reacted` says, field by field -/

section Reacted
variable {s t : State} (h : Reacted s t)
include h

theorem Reacted.ctl : t.ctl = s.ctl := h.1
theorem Reacted.pulse : { t.pulse with flowCount := s.pulse.flowCount } = s.pulse := h.2.1
theorem Reacted.road : { t.road with creep := s.road.creep } = s.road := h.2.2.1
theorem Reacted.analog : t.analog = s.analog := h.2.2.2.1
theorem Reacted.disc : t.disc = s.disc := h.2.2.2.2.1
theorem Reacted.store : t.store = s.store := h.2.2.2.2.2.2.1
theorem Reacted.pending : t.pending = s.pending := h.2.2.2.2.2.2.2.1
theorem Reacted.water : t.tank.water = s.tank.water := h.2.2.2.2.2.2.2.2.2.2.1
theorem Reacted.levelVrep : t.tank.levelVrep = s.tank.levelVrep := h.2.2.2.2.2.2.2.2.2.2.2.2.1
theorem Reacted.external : t.tank.external = s.tank.external := h.2.2.2.2.2.2.2.2.2.2.2.2.2.1
theorem Reacted.portA : PortKept s.links.a t.links.a := h.2.2.2.2.2.2.2.2.2.2.2.2.2.2.2.2.2.1
theorem Reacted.portB : PortKept s.links.b t.links.b := h.2.2.2.2.2.2.2.2.2.2.2.2.2.2.2.2.2.2
theorem Reacted.cfg (i : Nat) : t.cfg i = s.cfg i := by simp only [State.cfg, h.store]
theorem Reacted.cfgN (i : Nat) : t.cfgN i = s.cfgN i := by simp only [State.cfgN, h.store]
theorem Reacted.shadow : t.shadow = s.shadow := by simp only [State.shadow, h.cfg]

end Reacted

/-! ## Operations that are no answer to a publication -/

/-- Operations taken over a list leave the queue where each of them does. -/
theorem foldl_pending {α : Type} (f : State → α → State) (hf : ∀ s a, (f s a).pending = s.pending) :
    ∀ (l : List α) (s : State), (l.foldl f s).pending = s.pending
  | [], _ => rfl
  | a :: l, s => (foldl_pending f hf l (f s a)).trans (hf s a)

theorem startBlank_pending (n : Fin 10) (s : State) : (startBlank n s).pending = s.pending :=
  (Reacted.of_lineOnly (startBlank_lineOnly n s)).pending

theorem resumeLine_lineOnly (n : Fin 10) (s : State) : LineOnly n s (resumeLine n s) := by
  have h : ∀ f, LineOnly n s (s.modLine n f) := fun f => .of_modLine n f s
  unfold resumeLine
  dsimp only
  split
  · exact (h _).trans (startBlank_lineOnly n _)
  · split
    · exact (h _).trans (.of_modLine n _ _)
    · split
      · exact (h _).trans (.of_modLine n _ _)
      · exact h _

/-- Supply-low, going or coming, leaves all but the lines. -/
theorem suspendDiagnostics_reacted (s : State) : Reacted s (suspendDiagnostics s) := by
  unfold suspendDiagnostics
  exact Reacted.foldl _ (fun s n => .modLine n _ s) _ _
theorem resumeDiagnostics_reacted (s : State) : Reacted s (resumeDiagnostics s) := by
  unfold resumeDiagnostics
  exact Reacted.foldl _ (fun s n => .of_lineOnly (resumeLine_lineOnly n s)) _ _

theorem governorOnDis_reacted (s : State) : Reacted s (governorOnDis s) := by
  unfold governorOnDis
  split
  · split <;> exact .refl s
  · exact .refl s

theorem primerOnDis_reacted (s : State) : Reacted s (primerOnDis s) := by
  unfold primerOnDis
  split
  · exact .refl s
  · split
    · split <;> exact .refl s
    · exact .refl s

theorem casingJudge_reacted (s : State) : Reacted s (casingJudge s) :=
  (Reacted.modGov _ s).trans (command_reacted _ _ _)

theorem slipCheck_reacted (s : State) : Reacted s (slipCheck s) := by
  unfold slipCheck
  dsimp only
  split
  · exact .refl s
  · split
    · exact .refl s
    · exact (Reacted.modPto _ s).trans (judge_reacted 3 _)

theorem ptoOnEngine_reacted (s : State) : Reacted s (ptoOnEngine s) := by
  unfold ptoOnEngine
  split
  · exact .modPto _ s
  · exact judgeConfirm_reacted s
  · split
    · exact enterDrop_reacted s
    · exact .refl s
  · exact .refl s

theorem ptoOnPump_reacted (s : State) : Reacted s (ptoOnPump s) := by
  unfold ptoOnPump
  split
  · exact judgeConfirm_reacted s
  · exact slipCheck_reacted s
  · exact .refl s

theorem ratePublished_reacted (ch : PeriodCh) (s : State) : Reacted s (ratePublished ch s) := by
  cases ch
  · exact ptoOnEngine_reacted s
  · exact ptoOnPump_reacted s
  · exact .refl s

theorem ptoOnQualifier_reacted (s : State) : Reacted s (ptoOnQualifier s) := by
  unfold ptoOnQualifier
  split
  · exact .modPto _ s
  · exact .refl s

theorem ptoOnConfirm_reacted (s : State) : Reacted s (ptoOnConfirm s) := by
  unfold ptoOnConfirm
  split
  · exact judgeConfirm_reacted s
  · split
    · exact .refl s
    · exact enterFault_reacted _ s
  · split
    · exact .refl s
    · exact enterDisengaged_reacted _ s
  · exact .refl s

theorem ptoOnSolenoidFault_reacted (s : State) : Reacted s (ptoOnSolenoidFault s) := by
  unfold ptoOnSolenoidFault
  split
  · exact enterFault_reacted _ s
  · exact enterFault_reacted _ s
  · exact enterDisengaged_reacted _ s
  · exact enterDrop_reacted s
  · exact .refl s

theorem judgeLine_reacted (n : Fin 12) (s : State) : Reacted s (judgeLine n s) :=
  Reacted.foldl _ (fun s k => judge_reacted k s) _ _

theorem switchPublished_reacted (n : Fin 12) (s : State) : Reacted s (switchPublished n s) := by
  unfold switchPublished
  split
  · exact (modeJudge_reacted s).trans ((judge_reacted 7 _).trans (ptoOnQualifier_reacted _))
  · split
    · exact ptoOnQualifier_reacted s
    · split
      · exact (judge_reacted 2 s).trans (ptoOnConfirm_reacted _)
      · split
        · exact judge_reacted 0 s
        · exact judgeLine_reacted n s

theorem standstillPublished_reacted (s : State) : Reacted s (standstillPublished s) :=
  (modeJudge_reacted s).trans (ptoOnQualifier_reacted _)

theorem externalPublished_reacted (s : State) : Reacted s (externalPublished s) :=
  (judge_reacted 8 s).trans ((fillJudge_reacted _).trans (reconJudge_reacted _ _))

theorem diagPublished_reacted (n : Fin 10) (s : State) : Reacted s (diagPublished n s) := by
  unfold diagPublished
  dsimp only
  split
  · exact (judge_reacted 12 s).trans (ptoOnSolenoidFault_reacted _)
  · exact judge_reacted 12 s

theorem enterLineFault_reacted (n : Fin 10) (d : Diag) (s : State) : Reacted s (enterLineFault n d s) :=
  (Reacted.modLine n _ s).trans ((raise_reacted _ _).trans ((beginRetry_reacted n _).trans
    (diagPublished_reacted n _)))

theorem retryGood_reacted (n : Fin 10) (s : State) : Reacted s (retryGood n s) :=
  (Reacted.modLine n _ s).trans ((raise_reacted _ _).trans (diagPublished_reacted n _))

theorem retryFailed_reacted (n : Fin 10) (s : State) : Reacted s (retryFailed n s) :=
  (Reacted.modLine n _ s).trans ((drive_reacted n _).trans (beginRetry_reacted n _))

theorem clearLine_reacted (n : Fin 10) (s : State) : Reacted s (clearLine n s) :=
  (Reacted.modLine n _ s).trans ((drive_reacted n _).trans ((Reacted.modLine n _ _).trans (raise_reacted _ _)))

theorem disableLine_reacted (n : Fin 10) (s : State) : Reacted s (disableLine n s) := by
  have h := (Reacted.modLine n (fun l => { l with
    retryPhase := none, retryCount := 0, blank := none, mismatch := none, retry := none
    blankPending := false, diag := .ok }) s).trans (drive_reacted n _)
  unfold disableLine
  dsimp only
  split
  · exact h.trans ((raise_reacted _ _).trans (judge_reacted 12 _))
  · exact h

theorem pmaxWritten_reacted (s : State) : Reacted s (pmaxWritten s) := by
  unfold pmaxWritten
  dsimp only
  split
  · split <;> exact .refl s
  · exact .refl s

theorem clearEntry_reacted (n : Fin 32) (s : State) : Reacted s (clearEntry n s) := by
  unfold clearEntry
  split
  · exact .refl s
  · exact .modEntry n _ s
  · exact leave_reacted n s
  · exact leave_reacted n s

theorem governorUpdate_reacted (d : Int) (s : State) : Reacted s (governorUpdate d s) := by
  have h : ∀ f, Reacted s (setDuty ((transfer s).modGov f)) := fun f =>
    (transfer_reacted s).trans ((Reacted.modGov f _).trans (setDuty_reacted _))
  unfold governorUpdate
  dsimp only
  split
  · exact h _
  · exact (h _).trans (raise_reacted _ _)

theorem passOn_pending (s : State) : (passOn s).pending = s.pending := by
  unfold passOn
  split
  · rfl
  · split <;> rfl
  · rfl

theorem arbiterFrame_pending (st : Station) (s : State) : (arbiterFrame st s).pending = s.pending := by
  unfold arbiterFrame
  dsimp only
  split
  · split
    · exact (judge_reacted 14 _).pending
    · rfl
  · rfl

theorem arbiterRestart_pending (p : Port) (s : State) : (arbiterRestart p s).pending = s.pending := by
  have hw : (if tiedTo p s.auth.claimant s.auth.servicePort then withdrawClaim s else s).pending = s.pending := by
    split <;> rfl
  unfold arbiterRestart
  dsimp only
  split <;> split
  · exact (passOn_pending _).trans hw
  · exact hw
  · exact (passOn_pending _).trans hw
  · exact hw

theorem resync_pending (p : Port) (s : State) : (resync p s).pending = s.pending := by
  unfold resync
  exact foldl_pending _ (by intros; rfl) _ _

theorem reconExpiry_pending (s : State) : (reconExpiry s).pending = s.pending := by
  unfold reconExpiry
  dsimp only
  split
  · rfl
  · split
    · rfl
    · split
      · rfl
      · split <;> rfl

theorem progressJudge_pending (s : State) : (progressJudge s).pending = s.pending := by
  unfold progressJudge
  split
  · split <;> rfl
  · rfl

theorem tankReport_pending (t : TankId) (old : Tank) (s : State) : (tankReport t old s).pending = s.pending := by
  unfold tankReport
  dsimp only
  split <;> rfl

theorem waterClassPublished_reacted (s : State) : Reacted s (waterClassPublished s) := by
  unfold waterClassPublished
  dsimp only
  refine Reacted.trans ?_ (drive_reacted fillValve _)
  split
  · exact .modLine fillValve _ s
  · exact .refl s

theorem levelWork_pending (r : Vector Byte 6) (s : State) : (levelWork r s).pending = s.pending := by
  have hv : ∀ t u, (probeVolumes t u).pending = u.pending := fun t u => by
    unfold probeVolumes
    exact foldl_pending _ (by intros; rfl) _ _
  have hr : (takeReadings r s).pending = s.pending := by
    unfold takeReadings
    split
    · rfl
    · exact foldl_pending (fun s i => s.modProbe i _) (by intros; rfl) _ _
  exact (hv _ _).trans ((hv _ _).trans hr)

theorem levelPublish_pending (old s : State) : (levelPublish old s).pending = s.pending := by
  unfold levelPublish
  dsimp only
  rw [reconExpiry_pending, (reconJudge_reacted _ _).pending, progressJudge_pending, (fillJudge_reacted _).pending]
  have h : ∀ u : State, (judge 11 (judge 8 (waterClassPublished u))).pending = u.pending := fun u =>
    ((waterClassPublished_reacted u).trans ((judge_reacted 8 _).trans (judge_reacted 11 _))).pending
  have k : ∀ u : State, (tankReport .foam old.tank.foam (tankReport .water old.tank.water u)).pending = u.pending :=
    fun u => (tankReport_pending _ _ _).trans (tankReport_pending _ _ _)
  split
  · rw [(command_reacted _ _ _).pending, h, State.modTank_pending, k]
  · rw [h, State.modTank_pending, k]

theorem intPublished_pending (s : State) : (intPublished s).pending = s.pending := by
  unfold intPublished
  dsimp only
  rw [(judge_reacted 11 _).pending]
  split
  · rfl
  · exact (externalPublished_reacted _).pending

theorem supPublished_pending (s : State) : (supPublished s).pending = s.pending := by
  unfold supPublished
  dsimp only
  split
  · rfl
  · split
    · rw [(suspendDiagnostics_reacted _).pending]
      exact (judge_reacted 10 _).pending
    · rw [(resumeDiagnostics_reacted _).pending]
      exact (judge_reacted 10 _).pending

theorem disPublished_reacted (s : State) : Reacted s (disPublished s) :=
  (governorOnDis_reacted s).trans ((primerOnDis_reacted _).trans (judge_reacted 11 _))

theorem casPublished_reacted (s : State) : Reacted s (casPublished s) :=
  (casingJudge_reacted s).trans ((judge_reacted 9 _).trans (judge_reacted 11 _))

theorem sampleAll_pending (c : Counts) (s : State) : (sampleAll c s).pending = s.pending := by
  have hh : ∀ t v u, (headPublished t v u).pending = u.pending := fun t v u => (judge_reacted 11 _).pending
  unfold sampleAll
  dsimp only
  rw [supPublished_pending, State.modAnalog_pending, (casPublished_reacted _).pending, State.modAnalog_pending, hh,
    State.modAnalog_pending, hh, State.modAnalog_pending, intPublished_pending, State.modAnalog_pending,
    (disPublished_reacted _).pending, State.modAnalog_pending]

theorem completeStore_pending (snap : List Half) (left : Option NvImage) (s : State) :
    (completeStore snap left s).pending = s.pending := by
  unfold completeStore
  dsimp only
  rw [post_pending]
  split
  · exact (judge_reacted 13 _).pending
  · rfl

theorem tableWritten_pending (t : TankId) (s : State) : (tableWritten t s).pending = s.pending :=
  (judge_reacted 11 _).pending

theorem ownerTakes_pending (i : Nat) (s : State) : (ownerTakes i s).pending = s.pending := by
  unfold ownerTakes
  dsimp only
  split
  · split <;> rfl
  · split
    · exact (pmaxWritten_reacted s).pending
    · split
      · split
        · exact startBlank_pending _ s
        · exact (disableLine_reacted _ s).pending
      · split
        · exact tableWritten_pending _ s
        · exact (judge_reacted _ s).pending
        · rfl

theorem takeWrite_pending (i : Nat) (v : Half) (s : State) : (takeWrite i v s).pending = s.pending := by
  unfold takeWrite
  dsimp only
  rw [ownerTakes_pending, State.modStore_pending]
  split
  · exact (clearEntry_reacted _ s).pending
  · rfl

theorem beginStartup_pending (s : State) : (beginStartup s).pending = s.pending := by
  unfold beginStartup
  split <;> rfl

theorem beginService_pending (s : State) : (beginService s).pending = s.pending := by
  have hp : ∀ p u, (startPort p u).pending = u.pending := fun p u => resync_pending p _
  have hi : ∀ u, (startInputs u).pending = u.pending := fun u => by
    unfold startInputs
    dsimp only
    rw [foldl_pending _ (by intros; rfl)]
    rfl
  have hb : ∀ u : State, (allLines.foldl (fun s n => startBlank n s) u).pending = u.pending := fun u =>
    foldl_pending _ (fun s n => startBlank_pending n s) _ _
  have hj : ∀ u : State, (judge 11 (startTanks u)).pending = u.pending := fun u => (judge_reacted 11 _).pending
  have hs : ∀ u : State, (judgeAll (interlockLines u)).pending = u.pending := fun u =>
    ((interlockLines_reacted u).trans (judgeAll_reacted _)).pending
  unfold beginService
  dsimp only
  rw [hp, hp, hi, hb, hj, hs, State.modCtl_pending]

theorem loadSettings_pending (s : State) : (loadSettings s).pending = s.pending := by
  unfold loadSettings
  dsimp only
  rw [foldl_pending _ (by intros; rfl)]
  rfl

/-! ## Requests -/

/-- The owner of a request leaves the queue of waiting commands. -/
def Body.LeavesPending (b : Body) : Prop := ∀ st p s, (b st p s).1.pending = s.pending

end Sys2Proof.Machine
end

section
/-! PROOF. Every command answers a next state and leaves the queue (R1): the requests' owners, then all commands. -/

namespace Sys2Proof.Machine

theorem setTankValve_pending (on : Bool) (s : State) : (setTankValve on s).pending = s.pending := by
  unfold setTankValve
  split
  · rfl
  · exact ((command_reacted _ on s).trans ((judge_reacted 8 _).trans (reconJudge_reacted _ _))).pending

theorem takeFillMode_pending (m : FillMode) (s : State) : (takeFillMode m s).pending = s.pending := by
  unfold takeFillMode
  dsimp only
  rw [raise_pending, apply_ite State.pending, (freshWindow_reacted _ _).pending, ite_self,
    (fillJudgeOn_reacted _ _).pending, (judge_reacted 15 _).pending, State.modTank_pending]

theorem grant_pending (st : Station) (p : Port) (s : State) : (grant st p s).pending = s.pending := by
  unfold grant
  dsimp only
  split
  · exact (judge_reacted 14 _).pending
  · rfl

theorem fillFails_pending (s : State) : (fillFails s).pending = s.pending :=
  (judge_reacted 15 _).pending.trans (setFill_reacted false _).pending

theorem periodEdge_pending (ch : PeriodCh) (s : State) : (periodEdge ch s).pending = s.pending := by
  unfold periodEdge
  dsimp only
  split
  · rfl
  · simp [apply_ite State.pending, (ratePublished_reacted _ _).pending]

/-! ## The owners of the requests -/

section Bodies

theorem bodyAcknowledgeAll_leaves : bodyAcknowledgeAll.LeavesPending := fun _ _ s =>
  foldl_pending _ (fun s n => (leave_reacted n s).pending) _ s

theorem bodyAcknowledge_leaves (n : Byte) : (bodyAcknowledge n).LeavesPending := by
  intro st p s
  unfold bodyAcknowledge
  dsimp only
  split
  · exact bodyAcknowledgeAll_leaves st p s
  · split
    · split
      · exact (leave_reacted _ s).pending
      all_goals rfl
    · rfl

theorem bodySilenceAlarm_leaves : bodySilenceAlarm.LeavesPending := by
  intro _ _ s
  refine (alarmJudge_reacted _).pending.trans (foldl_pending _ (fun s n => ?_) _ _)
  unfold silence
  split <;> rfl

theorem bodyPtoEngage_leaves : bodyPtoEngage.LeavesPending := by
  intro st p s
  unfold bodyPtoEngage
  split
  · rfl
  · split
    · rfl
    · split
      · rfl
      · split
        case h_6 => simp [apply_ite Prod.fst, apply_ite State.pending, unchanged, (ptoPublish_reacted _ _).pending]
        all_goals rfl

theorem bodyPtoRelease_leaves : bodyPtoRelease.LeavesPending := by
  intro st p s
  unfold bodyPtoRelease
  split
  · rfl
  · split
    · rfl
    · rfl
    · rfl
    · simp only [(enterDisengaged_reacted _ s).pending]
    · simp only [(enterSpinDown_reacted s).pending]
    · simp only [(enterSpinDown_reacted s).pending]

theorem bodySetGovernor_leaves (m : Byte) (v : Half) : (bodySetGovernor m v).LeavesPending := by
  intro st p s
  unfold bodySetGovernor
  split
  · rfl
  · simp [apply_ite Prod.fst, apply_ite State.pending, unchanged, takeGovernor]

theorem bodyWriteSetting_leaves (i v : Half) : (bodyWriteSetting i v).LeavesPending := by
  intro st p s
  unfold bodyWriteSetting
  dsimp only
  split
  · rfl
  · split
    · rfl
    · simp [apply_ite Prod.fst, apply_ite State.pending, unchanged, takeWrite_pending]

theorem bodyLinkRestart_leaves : bodyLinkRestart.LeavesPending := fun _ p _ =>
  (resync_pending p _).trans (arbiterRestart_pending p _)

theorem bodyClearOutputFaults_leaves : bodyClearOutputFaults.LeavesPending := fun _ _ _ =>
  (judge_reacted 12 _).pending.trans (foldl_pending _ (fun s n => (clearLine_reacted n s).pending) _ _)

theorem bodySetFillMode_leaves (p : Byte) : (bodySetFillMode p).LeavesPending := by
  intro st q s
  unfold bodySetFillMode
  split
  · rfl
  · simp [apply_ite Prod.fst, apply_ite State.pending, unchanged, takeFillMode_pending]

theorem bodyReadSetting_leaves (i : Half) : (bodyReadSetting i).LeavesPending := by
  intro st q s
  unfold bodyReadSetting
  split <;> rfl

theorem bodyReadEntry_leaves (n : Byte) : (bodyReadEntry n).LeavesPending := by
  intro st q s
  unfold bodyReadEntry
  split <;> rfl

/-! The owners whose judgment is one chain of cases. -/

theorem bodyEnterRoll_leaves : bodyEnterRoll.LeavesPending := fun st p s => by
  simp [bodyEnterRoll, apply_ite Prod.fst, apply_ite State.pending, unchanged, (setMode_reacted _ s).pending]

theorem bodyLeaveRoll_leaves : bodyLeaveRoll.LeavesPending := fun st p s => by
  simp [bodyLeaveRoll, apply_ite Prod.fst, apply_ite State.pending, unchanged, (setMode_reacted _ s).pending]

theorem bodyClearPtoFault_leaves : bodyClearPtoFault.LeavesPending := fun st p s => by
  simp [bodyClearPtoFault, apply_ite Prod.fst, apply_ite State.pending, unchanged,
    (enterDisengaged_reacted _ s).pending]

theorem bodyTankValve_leaves (x : Byte) : (bodyTankValve x).LeavesPending := fun st p s => by
  simp [bodyTankValve, apply_ite Prod.fst, apply_ite State.pending, unchanged, setTankValve_pending]

theorem bodyFoamPump_leaves (x : Byte) : (bodyFoamPump x).LeavesPending := fun st p s => by
  simp [bodyFoamPump, apply_ite Prod.fst, apply_ite State.pending, unchanged, (command_reacted _ _ s).pending]

theorem bodyPrimerStart_leaves : bodyPrimerStart.LeavesPending := fun st p s => by
  simp [bodyPrimerStart, apply_ite Prod.fst, apply_ite State.pending, unchanged, beginRun,
    (command_reacted _ _ _).pending]

theorem bodyPrimerStop_leaves : bodyPrimerStop.LeavesPending := fun st p s => by
  simp [bodyPrimerStop, apply_ite Prod.fst, apply_ite State.pending, unchanged, (primerEnd_reacted _ s).pending]

theorem bodyTakeAuthority_leaves : bodyTakeAuthority.LeavesPending := fun st p s => by
  simp [bodyTakeAuthority, apply_ite Prod.fst, apply_ite State.pending, unchanged, grant_pending, claim]

theorem bodyYieldAuthority_leaves : bodyYieldAuthority.LeavesPending := fun st p s => by
  simp [bodyYieldAuthority, apply_ite Prod.fst, apply_ite State.pending, unchanged, passOn_pending, withdrawClaim]

theorem bodyStoreSettings_leaves : bodyStoreSettings.LeavesPending := fun st p s => by
  simp [bodyStoreSettings, apply_ite Prod.fst, apply_ite State.pending, unchanged]

theorem bodyReadMeasurements_leaves (g : Byte) : (bodyReadMeasurements g).LeavesPending := fun st p s => by
  simp [bodyReadMeasurements, apply_ite Prod.fst, unchanged]

theorem bodyFetchReports_leaves : bodyFetchReports.LeavesPending := fun _ _ _ => rfl

end Bodies

/-- The owner that a kind code and a payload decode to leaves the queue. -/
theorem kindOf_leaves {code : Nat} {k : Kind} (h : kindOf code = some k) (p : List Byte) :
    (k.body p).LeavesPending := by
  unfold kindOf at h
  split at h <;> cases h
  · exact fun _ _ _ => rfl
  · exact bodyReadMeasurements_leaves _
  · exact fun _ _ _ => rfl
  · exact bodyReadEntry_leaves _
  · exact bodyReadSetting_leaves _
  · exact bodyFetchReports_leaves
  · exact bodyTakeAuthority_leaves
  · exact bodyYieldAuthority_leaves
  · exact bodyPtoEngage_leaves
  · exact bodyPtoRelease_leaves
  · exact bodyClearPtoFault_leaves
  · exact bodySetGovernor_leaves _ _
  · exact bodyEnterRoll_leaves
  · exact bodyLeaveRoll_leaves
  · exact bodyTankValve_leaves _
  · exact bodyFoamPump_leaves _
  · exact bodySetFillMode_leaves _
  · exact bodyPrimerStart_leaves
  · exact bodyPrimerStop_leaves
  · exact bodyAcknowledge_leaves _
  · exact bodySilenceAlarm_leaves
  · exact bodyClearOutputFaults_leaves
  · exact bodyWriteSetting_leaves _ _
  · exact bodyStoreSettings_leaves
  · exact bodyLinkRestart_leaves

theorem decodeBody_leaves (code : Nat) (payload : List Byte) : (decodeBody code payload).LeavesPending := by
  unfold decodeBody
  split
  · exact fun _ _ _ => rfl
  · rename_i k hk
    split
    · exact kindOf_leaves hk payload
    · exact fun _ _ _ => rfl

theorem handFrame_pending (h : Header) (kind : Nat) (isRead : Bool) {b : Body} (hb : b.LeavesPending) (s : State) :
    (handFrame h kind isRead b s).pending = s.pending := by
  unfold handFrame
  dsimp only
  split
  · rw [(settle_reacted _).pending, arbiterFrame_pending]
  · split
    · rw [(settle_reacted _).pending, hb, arbiterFrame_pending]
    · rw [State.modPort_pending, (settle_reacted _).pending, hb, arbiterFrame_pending]

theorem serve_pending (h : Header) (kind : Nat) (isRead : Bool) {b : Body} (hb : b.LeavesPending) (s : State) :
    (serve h kind isRead b s).pending = s.pending := by
  unfold serve
  split
  · exact handFrame_pending h kind isRead hb _
  · rfl

theorem appendChar_pending (p : Port) (f : List Byte) (d : Byte) (s : State) :
    (appendChar p f d s).pending = s.pending := by
  unfold appendChar frameComplete
  dsimp only
  split
  · rfl
  · split
    · split
      · exact handFrame_pending _ _ _ (decodeBody_leaves _ _) _
      · rfl
    · rfl

/-! ## Every command -/

/-- A command that answers a next state with the queue of `s`. -/
def Taken (s : State) (o : Host.Outcome State Fault Refusal) : Prop := ∃ t, o = .next t ∧ t.pending = s.pending

theorem Taken.next {s t : State} (h : t.pending = s.pending) : Taken s (.next t) := ⟨t, rfl, h⟩

theorem Taken.settled {s t : State} (h : t.pending = s.pending) : Taken s (.next (settle t)) :=
  .next ((settle_reacted t).pending.trans h)

theorem Taken.ite {p : Prop} [Decidable p] {s : State} {a b : Host.Outcome State Fault Refusal}
    (ha : Taken s a) (hb : Taken s b) : Taken s (if p then a else b) := by
  split
  · exact ha
  · exact hb

theorem Taken.served {s : State} (h : Header) (kind : Nat) (isRead : Bool) {b : Body} (hb : b.LeavesPending) :
    Taken s (.next (serve h kind isRead b s)) := .next (serve_pending h kind isRead hb s)

theorem execReadbackChange_taken (n : Fin 10) (level : Bool) (s : State) : Taken s (execReadbackChange n level s) := by
  unfold execReadbackChange
  dsimp only
  refine .ite (.next rfl) (.ite (.next rfl) ?_)
  split
  · exact .next rfl
  · exact .ite (.next rfl) (.next rfl)
  · exact .next rfl

theorem execBlankTimerExpiry_taken (n : Fin 10) (s : State) : Taken s (execBlankTimerExpiry n s) := by
  unfold execBlankTimerExpiry
  dsimp only
  refine .ite (.next rfl) ?_
  split <;> exact .next rfl

theorem execMismatchTimerExpiry_taken (n : Fin 10) (s : State) : Taken s (execMismatchTimerExpiry n s) := by
  unfold execMismatchTimerExpiry
  dsimp only
  refine .ite (.next rfl) (.ite (.settled ?_) (.settled (enterLineFault_reacted n _ s).pending))
  split
  · exact (retryGood_reacted n s).pending
  · exact (retryFailed_reacted n s).pending

theorem execUpdateTimerExpiry_taken (s : State) : Taken s (execUpdateTimerExpiry s) := by
  unfold execUpdateTimerExpiry
  split
  · exact .ite (.next rfl) (.next (governorUpdate_reacted _ s).pending)
  · exact .next rfl

theorem execStoreComplete_taken (left : Option NvImage) (s : State) : Taken s (execStoreComplete left s) := by
  unfold execStoreComplete
  split
  · exact .settled (completeStore_pending _ left s)
  · exact .next rfl

theorem execCharacterReceive_taken (p : Port) (d : Byte) (mark bad : Bool) (s : State) :
    Taken s (execCharacterReceive p d mark bad s) := by
  unfold execCharacterReceive
  refine .ite (.next rfl) (.ite (.next rfl) ?_)
  split
  · exact .next rfl
  · exact .ite (.next rfl) (.next (appendChar_pending p _ d s))

/-- Every command is taken: the chapter's own timers and pins, then the requests. -/
theorem exec_taken (c : Instr) (s : State) : Taken s (exec c s) := by
  cases c with
  | periodEdge ch => exact .settled (periodEdge_pending ch s)
  | staleTimerExpiry ch => exact .ite (.next rfl) (.settled (ratePublished_reacted ch _).pending)
  | roadEdge ph => exact .ite (.next rfl) (.settled (judge_reacted 6 _).pending)
  | gateTimerExpiry =>
    refine .ite (.next rfl) (.settled ?_)
    rw [apply_ite State.pending, (standstillPublished_reacted _).pending, ite_self]
    exact ((judge_reacted 4 _).trans (judge_reacted 5 _)).pending
  | sampleTimerExpiry c => exact .ite (.next rfl) (.settled (sampleAll_pending c s))
  | rawLevelChange n c => exact .ite (.next rfl) (.ite (.next rfl) (.ite (.next rfl) (.next rfl)))
  | debounceExpiry n => exact .ite (.next rfl) (.settled (switchPublished_reacted n _).pending)
  | brownOut => exact .next rfl
  | supplyHoldExpiry => exact .ite (.next rfl) (.next (beginStartup_pending _))
  | resetPinAssert => exact .next rfl
  | resetPinRelease => exact .ite (.next rfl) (.next (beginStartup_pending _))
  | loadComplete =>
    exact .ite (.settled ((beginService_pending _).trans (loadSettings_pending s))) (.next rfl)
  | entryDelayExpiry n => exact .ite (.settled (join_reacted n s).pending) (.next rfl)
  | cadenceTimerExpiry => exact .ite (.next rfl) (.next (command_reacted _ _ _).pending)
  | windowTimerExpiry => exact .ite (.settled (enterDisengaged_reacted _ s).pending) (.next rfl)
  | holdTimerExpiry => exact .ite (.settled (enterEngaging_reacted s).pending) (.next rfl)
  | confirmTimerExpiry => exact .ite (.settled (enterFault_reacted _ s).pending) (.next rfl)
  | spinDownTimerExpiry => exact .ite (.settled (enterDrop_reacted s).pending) (.next rfl)
  | dropTimerExpiry => exact .ite (.settled (enterFault_reacted _ s).pending) (.next rfl)
  | updateTimerExpiry => exact execUpdateTimerExpiry_taken s
  | pwmPeriodEnd => exact .next rfl
  | levelTimerExpiry r =>
    exact .ite (.next rfl) (.settled ((levelPublish_pending s _).trans (levelWork_pending r s)))
  | progressWindowExpiry => exact .ite (.next rfl) (.settled (fillFails_pending s))
  | primeTimerExpiry => exact .ite (.next rfl) (.next (primerEnd_reacted _ s).pending)
  | runTimerExpiry => exact .ite (.next rfl) (.next (primerEnd_reacted _ s).pending)
  | readbackChange n level => exact execReadbackChange_taken n level s
  | blankTimerExpiry n => exact execBlankTimerExpiry_taken n s
  | mismatchTimerExpiry n => exact execMismatchTimerExpiry_taken n s
  | retryTimerExpiry n => exact .ite (.next rfl) (.next (drive_reacted n _).pending)
  | silenceTimerExpiry =>
    exact .ite (.next rfl) (.settled ((judge_reacted 14 _).pending.trans (passOn_pending s)))
  | characterReceive p d mark bad => exact execCharacterReceive_taken p d mark bad s
  | gapTimerExpiry p => exact .ite (.next rfl) (.next rfl)
  | replyTransmitStart p => exact .ite (.next rfl) (.next rfl)
  | replyComplete p => exact .ite (.next rfl) (.next rfl)
  | storeComplete left => exact execStoreComplete_taken left s
  | supplyRiseAbove6V => exact .ite (.next rfl) (.next rfl)
  | enterRoll h => exact .served _ _ _ bodyEnterRoll_leaves
  | leaveRoll h => exact .served _ _ _ bodyLeaveRoll_leaves
  | acknowledgeLockout h n => exact .served _ _ _ (bodyAcknowledge_leaves n)
  | acknowledgeLockoutAll h => exact .served _ _ _ bodyAcknowledgeAll_leaves
  | silenceAlarm h => exact .served _ _ _ bodySilenceAlarm_leaves
  | ptoEngage h => exact .served _ _ _ bodyPtoEngage_leaves
  | ptoRelease h => exact .served _ _ _ bodyPtoRelease_leaves
  | clearPtoFault h => exact .served _ _ _ bodyClearPtoFault_leaves
  | setGovernor h m v => exact .served _ _ _ (bodySetGovernor_leaves m v)
  | tankValve h p => exact .served _ _ _ (bodyTankValve_leaves p)
  | foamPump h p => exact .served _ _ _ (bodyFoamPump_leaves p)
  | setFillMode h p => exact .served _ _ _ (bodySetFillMode_leaves p)
  | primerStart h => exact .served _ _ _ bodyPrimerStart_leaves
  | primerStop h => exact .served _ _ _ bodyPrimerStop_leaves
  | clearOutputFaults h => exact .served _ _ _ bodyClearOutputFaults_leaves
  | takeAuthority h => exact .served _ _ _ bodyTakeAuthority_leaves
  | yieldAuthority h => exact .served _ _ _ bodyYieldAuthority_leaves
  | readStatus h => exact .served _ _ _ fun _ _ _ => rfl
  | readMeasurements h g => exact .served _ _ _ (bodyReadMeasurements_leaves g)
  | readLockouts h => exact .served _ _ _ fun _ _ _ => rfl
  | readEntry h n => exact .served _ _ _ (bodyReadEntry_leaves n)
  | readSetting h i => exact .served _ _ _ (bodyReadSetting_leaves i)
  | fetchReports h => exact .served _ _ _ bodyFetchReports_leaves
  | linkRestart h => exact .served _ _ _ bodyLinkRestart_leaves
  | writeSetting h i v => exact .served _ _ _ (bodyWriteSetting_leaves i v)
  | storeSettings h => exact .served _ _ _ bodyStoreSettings_leaves

/-- Settles O3, command by command (`exec_taken`). -/
theorem everyCommandIsTaken : Obligations.EveryCommandIsTaken := exec_taken

end Sys2Proof.Machine
end

section
/-! PROOF. What a judgment of lockout entries can do (R37 to R45, R49 to R51, R81): `Judged` says what it leaves, over
which entries it moves, and which join notices it gives. -/

namespace Sys2Proof.Machine

/-! ## Reports that stay -/

/-- Every report that stands in both queues of `s` under a key outside `K` stands in those of `t`. -/
def KeepsReports (K : ReportKey → Prop) (s t : State) : Prop :=
  ∀ k r, ¬ K k → Reported k r s → Reported k r t

theorem KeepsReports.of_links {K : ReportKey → Prop} {s t : State} (h : t.links = s.links) : KeepsReports K s t :=
  fun k r _ hr => by rwa [Reported, h]

theorem KeepsReports.trans {K : ReportKey → Prop} {s t u : State} (h : KeepsReports K s t) (k : KeepsReports K t u) :
    KeepsReports K s u := fun key r hk hr => k key r hk (h key r hk hr)

theorem KeepsReports.mono {K L : ReportKey → Prop} {s t : State} (h : KeepsReports K s t) (hKL : ∀ k, K k → L k) :
    KeepsReports L s t := fun key r hk hr => h key r (fun hK => hk (hKL key hK)) hr

/-- A report displaces only a report under its own key. -/
theorem post_keepsReports (k : ReportKey) (c : Record) (s : State) : KeepsReports (· = k) s (post k c s) :=
  fun key r hk hr =>
    ⟨(mem_enqueue_other k c s.links.a.queue ⟨key, r, false⟩ hk).2 hr.1,
     (mem_enqueue_other k c s.links.b.queue ⟨key, r, false⟩ hk).2 hr.2⟩

theorem raise_keepsReports (k : ReportKey) (s : State) : KeepsReports (· = k) s (raise k s) :=
  post_keepsReports k _ s

/-- A report that is raised stands in both queues (R156). -/
theorem post_reported (k : ReportKey) (c : Record) (s : State) : Reported k c (post k c s) :=
  ⟨mem_enqueue k c s.links.a.queue, mem_enqueue k c s.links.b.queue⟩

theorem raise_reported (k : ReportKey) (s : State) : Reported k (recordOf s k) (raise k s) := post_reported k _ s

/-! ## The governor's bounds -/

/-- The GOVERNOR report in the queues is the governor's present content (R92). -/
def GovernorTold (s : State) : Prop := Reported .governor (recordOf s .governor) s

/-- D stands at Nidle, and Nidle below both upper bounds, so that no judgment of the bounds moves it (R81). -/
def AtIdle (s : State) : Prop :=
  s.gov.demand = some s.gov.work.nidle ∧ s.gov.work.nidle ≤ s.gov.work.nmax ∧
    s.gov.work.nidle ≤ s.gov.work.rollCap

/-- The governor of `t` is that of `s` but for its bounds, the D and the duty within them (R81). -/
structure Rebounded (s t : State) : Prop where
  kept : { t.gov with demand := s.gov.demand, dmax := s.gov.dmax, capActive := s.gov.capActive
                      duty := s.gov.duty } = s.gov
  hold : t.out.hold = s.out.hold
  idle : AtIdle s → AtIdle t
  duty : s.out.hold = true → s.gov.duty = 50 → t.gov.duty = 50
  told : GovernorTold s → GovernorTold t

theorem GovernorTold.of_eq {s t : State} (hg : t.gov = s.gov) (hl : KeepsReports (· ≠ .governor) s t)
    (h : GovernorTold s) : GovernorTold t := by
  have hr : recordOf t .governor = recordOf s .governor := by simp only [recordOf, hg]
  rw [GovernorTold, hr]
  exact hl _ _ (by simp) h

theorem Rebounded.of_eq {s t : State} (hg : t.gov = s.gov) (hh : t.out.hold = s.out.hold)
    (hl : KeepsReports (· ≠ .governor) s t) : Rebounded s t where
  kept := by rw [hg]
  hold := hh
  idle := fun h => by rwa [AtIdle, hg]
  duty := fun _ h => by rwa [hg]
  told := GovernorTold.of_eq hg hl

theorem Rebounded.refl (s : State) : Rebounded s s := .of_eq rfl rfl (.of_links rfl)

theorem Rebounded.trans {s t u : State} (h : Rebounded s t) (k : Rebounded t u) : Rebounded s u where
  kept := by rw [← h.kept, ← k.kept]
  hold := k.hold.trans h.hold
  idle := fun hs => k.idle (h.idle hs)
  duty := fun hh hd => k.duty (h.hold.trans hh) (h.duty hh hd)
  told := fun hs => k.told (h.told hs)

section Rebounded
variable {s t : State} (h : Rebounded s t)
include h

theorem Rebounded.state : t.gov.state = s.gov.state := (congrArg Governor.state h.kept :)
theorem Rebounded.ns : t.gov.ns = s.gov.ns := (congrArg Governor.ns h.kept :)
theorem Rebounded.ps : t.gov.ps = s.gov.ps := (congrArg Governor.ps h.kept :)
theorem Rebounded.fallback : t.gov.fallback = s.gov.fallback := (congrArg Governor.fallback h.kept :)
theorem Rebounded.work : t.gov.work = s.gov.work := (congrArg Governor.work h.kept :)
theorem Rebounded.casingHot : t.gov.casingHot = s.gov.casingHot := (congrArg Governor.casingHot h.kept :)

end Rebounded

/-- In a stop hold the duty is 50 (R86). -/
theorem dutyOf_of_hold {s : State} (h : s.out.hold = true) : dutyOf s = 50 := by
  unfold dutyOf
  split <;> simp [h]

/-- Nidle lies within Dmax wherever it lies within Nmax and the roll cap. -/
theorem nidle_le_dmaxOf {s : State} (h1 : s.gov.work.nidle ≤ s.gov.work.nmax)
    (h2 : s.gov.work.nidle ≤ s.gov.work.rollCap) : s.gov.work.nidle ≤ dmaxOf s := by
  unfold dmaxOf
  dsimp only
  split
  · exact le_refl _
  · split
    · exact le_min h1 h2
    · exact h1

/-- What `rejudgeBounds` makes of the state: nothing, or new bounds with a report where the cap flag has moved. -/
theorem rejudgeBounds_cases (s : State) : rejudgeBounds s = s ∨ ∃ d duty, s.gov.demand = some d ∧
    (s.out.hold = true → s.gov.duty = 50 → duty = 50) ∧
    let u := s.modGov fun g => { g with
      dmax := some (dmaxOf s), capActive := decide (dmaxOf s < s.gov.work.nmax)
      demand := some (min d (dmaxOf s)), duty := duty }
    (rejudgeBounds s = u ∧ u.gov.capActive = s.gov.capActive ∨ rejudgeBounds s = raise .governor u) := by
  unfold rejudgeBounds
  split
  · exact .inl rfl
  · exact .inl rfl
  · rename_i d hd _
    right
    dsimp only
    by_cases hlt : dmaxOf s < d
    · refine ⟨d, dutyOf (s.modGov fun g => { g with
        dmax := some (dmaxOf s), capActive := decide (dmaxOf s < s.gov.work.nmax)
        demand := some (min d (dmaxOf s)) }), hd, fun hh _ => dutyOf_of_hold hh, ?_⟩
      rw [if_pos hlt]
      split
      · exact .inl ⟨rfl, ‹_›⟩
      · exact .inr rfl
    · refine ⟨d, s.gov.duty, hd, fun _ h => h, ?_⟩
      rw [if_neg hlt]
      split
      · exact .inl ⟨rfl, ‹_›⟩
      · exact .inr rfl

/-- A judgment of the bounds raises no report but GOVERNOR. -/
theorem rejudgeBounds_keepsReports (s : State) : KeepsReports (· = .governor) s (rejudgeBounds s) := by
  obtain h | ⟨d, duty, -, -, ⟨h, -⟩ | h⟩ := rejudgeBounds_cases s <;> rw [h]
  · exact .of_links rfl
  · exact .of_links rfl
  · refine KeepsReports.trans ?_ (raise_keepsReports _ _)
    exact .of_links rfl

theorem rejudgeBounds_rebounded (s : State) : Rebounded s (rejudgeBounds s) := by
  obtain h | ⟨d, duty, hd, hh, h⟩ := rejudgeBounds_cases s
  · rw [h]
    exact .refl s
  · have hidle : ∀ v : State, v.gov = (s.modGov fun g => { g with
        dmax := some (dmaxOf s), capActive := decide (dmaxOf s < s.gov.work.nmax)
        demand := some (min d (dmaxOf s)), duty := duty }).gov → AtIdle s → AtIdle v := by
      rintro v hv ⟨h1, h2, h3⟩
      have hd' : d = s.gov.work.nidle := by simpa [hd] using h1
      rw [AtIdle, hv]
      exact ⟨by simp [hd', min_eq_left (nidle_le_dmaxOf h2 h3)], h2, h3⟩
    obtain ⟨h, hc⟩ | h := h <;> rw [h]
    · refine ⟨rfl, rfl, hidle _ rfl, hh, fun ht => ?_⟩
      have hr : recordOf (s.modGov fun g => { g with
          dmax := some (dmaxOf s), capActive := decide (dmaxOf s < s.gov.work.nmax)
          demand := some (min d (dmaxOf s)), duty := duty }) .governor = recordOf s .governor := by
        rw [State.modGov_gov] at hc
        simp only [recordOf, State.modGov_gov, Governor.setpoint, Governor.flags, hc]
      rw [GovernorTold, hr]
      exact ht
    · exact ⟨rfl, rfl, hidle _ rfl, hh, fun _ => raise_reported _ _⟩

/-! ## What the entries read -/

section Store
variable {s t : State} (h : t.store = s.store) (n : Fin 32)
include h

theorem entryModes_of_store : entryModes t n = entryModes s n := by
  simp only [entryModes, State.cfgN, h]
theorem entryActions_of_store : entryActions t n = entryActions s n := by
  simp only [entryActions, State.cfgN, h]
theorem entryLatches_of_store : entryLatches t n = entryLatches s n := by
  simp only [entryLatches, State.cfg, h]
theorem entryDelay_of_store : entryDelay t n = entryDelay s n := by
  simp only [entryDelay, State.cfgN, h]
theorem entrySource_of_store : entrySource t n = entrySource s n := by
  simp only [entrySource, State.cfgN, h]

end Store

/-- Entry 0 is not about to join: it is not CLEAR under a present pump stop. -/
def NoStop (s : State) : Prop := s.ilk.entries[(0 : Fin 32)].state = .clear → lineSource s 3 = false

theorem NoStop.of_eq {s t : State} (h : NoStop s) (hd : t.disc = s.disc)
    (he : t.ilk.entries[(0 : Fin 32)] = s.ilk.entries[(0 : Fin 32)]) : NoStop t := by
  intro hc
  rw [he] at hc
  rw [lineSource, hd]
  exact h hc

theorem StopTaken.noStop {s : State} (h : StopTaken s) : NoStop s := by
  intro hc
  have hn : ¬ lineSource s 3 = true := fun hl => by
    have := hc.symm.trans (h.1.2 hl)
    cases this
  simpa using hn

/-- A join notice as a judgment of an entry of `N` in `s` gives it. -/
def Joined (N : Fin 32 → Prop) (s : State) (x : Notice) : Prop :=
  N x.entry ∧ x.actions = entryActions s x.entry ∧ entryDelay s x.entry = 0 ∧ (NoStop s → x.entry ≠ 0)

/-! ## Judgments -/

/-- `t` is `s` after the interlock unit has judged entries of `N`, and perhaps moved the mode: what every other
block owns stands, the governor but for its bounds. -/
structure Interlocked (N : Fin 32 → Prop) (s t : State) : Prop where
  reacted : Reacted s t
  pulse : t.pulse = s.pulse
  pto : t.pto = s.pto
  tank : t.tank = s.tank
  auth : t.auth = s.auth
  lines : ∀ m : Fin 10, m ≠ driveEn → m ≠ thrLimit → m ≠ alarmLine → m ≠ pumpReady →
    t.out.lines[m] = s.out.lines[m]
  bounds : Rebounded s t
  entries : ∀ m : Fin 32, ¬ N m → t.ilk.entries[m] = s.ilk.entries[m]
  listed : ∀ m : Fin 32, ¬ N m → (m ∈ t.ilk.active ↔ m ∈ s.ilk.active)
  notices : ∃ new, t.ilk.notices = s.ilk.notices ++ new ∧ ∀ x ∈ new, Joined N s x
  reports : KeepsReports (fun k => k = .governor ∨ k = .mode ∨ ∃ n, N n ∧ k = .lockout n) s t
  stop : NoStop s → NoStop t

/-- `t` is `s` after judgments of entries of `N` in one mode. -/
structure Judged (N : Fin 32 → Prop) (s t : State) : Prop extends Interlocked N s t where
  road : t.road = s.road
  mode : t.ilk.mode = s.ilk.mode
  ready : t.out.lines[pumpReady] = s.out.lines[pumpReady]
  told : KeepsReports (fun k => k = .governor ∨ ∃ n, N n ∧ k = .lockout n) s t

theorem Joined.of_reacted {N : Fin 32 → Prop} {s t : State} {x : Notice} (h : Reacted s t)
    (hs : NoStop s → NoStop t) (hx : Joined N t x) : Joined N s x := by
  obtain ⟨h1, h2, h3, h4⟩ := hx
  exact ⟨h1, h2.trans (entryActions_of_store h.store _), (entryDelay_of_store h.store _).symm.trans h3,
    fun h0 => h4 (hs h0)⟩

theorem Interlocked.trans {N : Fin 32 → Prop} {s t u : State} (h : Interlocked N s t) (k : Interlocked N t u) :
    Interlocked N s u where
  reacted := h.reacted.trans k.reacted
  pulse := k.pulse.trans h.pulse
  pto := k.pto.trans h.pto
  tank := k.tank.trans h.tank
  auth := k.auth.trans h.auth
  lines := fun m h1 h2 h3 h4 => (k.lines m h1 h2 h3 h4).trans (h.lines m h1 h2 h3 h4)
  bounds := h.bounds.trans k.bounds
  entries := fun m hm => (k.entries m hm).trans (h.entries m hm)
  listed := fun m hm => (k.listed m hm).trans (h.listed m hm)
  notices := by
    obtain ⟨new1, e1, j1⟩ := h.notices
    obtain ⟨new2, e2, j2⟩ := k.notices
    refine ⟨new1 ++ new2, by rw [e2, e1, List.append_assoc], fun x hx => ?_⟩
    obtain hx | hx := List.mem_append.1 hx
    · exact j1 x hx
    · exact (j2 x hx).of_reacted h.reacted h.stop
  reports := h.reports.trans k.reports
  stop := fun hs => k.stop (h.stop hs)

theorem Interlocked.mono {N M : Fin 32 → Prop} {s t : State} (h : Interlocked N s t) (hNM : ∀ n, N n → M n) :
    Interlocked M s t :=
  { h with
    entries := fun m hm => h.entries m fun hn => hm (hNM m hn)
    listed := fun m hm => h.listed m fun hn => hm (hNM m hn)
    notices := by
      obtain ⟨new, e, j⟩ := h.notices
      exact ⟨new, e, fun x hx => ⟨hNM _ (j x hx).1, (j x hx).2⟩⟩
    reports := h.reports.mono fun k hk => hk.imp_right fun hk => hk.imp_right fun ⟨n, hn, e⟩ => ⟨n, hNM n hn, e⟩ }

theorem Judged.trans {N : Fin 32 → Prop} {s t u : State} (h : Judged N s t) (k : Judged N t u) : Judged N s u :=
  { h.toInterlocked.trans k.toInterlocked with
    road := k.road.trans h.road
    mode := k.mode.trans h.mode
    ready := k.ready.trans h.ready
    told := h.told.trans k.told }

theorem Judged.mono {N M : Fin 32 → Prop} {s t : State} (h : Judged N s t) (hNM : ∀ n, N n → M n) : Judged M s t :=
  { h.toInterlocked.mono hNM with
    road := h.road
    mode := h.mode
    ready := h.ready
    told := h.told.mono fun _ hk => hk.imp_right fun ⟨n, hn, e⟩ => ⟨n, hNM n hn, e⟩ }

/-- A judgment in one mode that moves the queues and what `ilk` of an entry of `N` alone. -/
theorem Judged.of_ilk {N : Fin 32 → Prop} {s : State} (f : Interlock → Interlock)
    (hm : (f s.ilk).mode = s.ilk.mode)
    (he : ∀ m : Fin 32, ¬ N m → (f s.ilk).entries[m] = s.ilk.entries[m])
    (hl : ∀ m : Fin 32, ¬ N m → (m ∈ (f s.ilk).active ↔ m ∈ s.ilk.active))
    (hn : ∃ new, (f s.ilk).notices = s.ilk.notices ++ new ∧ ∀ x ∈ new, Joined N s x)
    (h0 : NoStop s → NoStop (s.modIlk f)) : Judged N s (s.modIlk f) where
  reacted := .modIlk f s
  pulse := rfl
  pto := rfl
  tank := rfl
  auth := rfl
  lines := fun _ _ _ _ _ => rfl
  bounds := .of_eq rfl rfl (.of_links rfl)
  entries := he
  listed := hl
  notices := hn
  reports := .of_links rfl
  stop := h0
  road := rfl
  mode := hm
  ready := rfl
  told := .of_links rfl

theorem Judged.refl (N : Fin 32 → Prop) (s : State) : Judged N s s :=
  Judged.of_ilk (s := s) id rfl (fun _ _ => rfl) (fun _ _ => .rfl) ⟨[], by simp, by simp⟩ id

/-- One of the interlock unit's own three lines moves. -/
theorem Judged.of_lineOnly {N : Fin 32 → Prop} {n : Fin 10} {s t : State} (h : LineOnly n s t)
    (hn : n = driveEn ∨ n = thrLimit ∨ n = alarmLine) : Judged N s t := by
  have hlines : ∀ m : Fin 10, m ≠ driveEn → m ≠ thrLimit → m ≠ alarmLine → t.out.lines[m] = s.out.lines[m] := by
    intro m h1 h2 h3
    refine h.other ?_
    rintro rfl
    obtain rfl | rfl | rfl := hn <;> contradiction
  have hh := h.hold
  have hr := Reacted.of_lineOnly h
  rw [LineOnly] at h
  generalize ht : (fun _ => t.out.lines[n]) = f at h
  have hlinks : t.links = s.links := by rw [h]; rfl
  exact
    { reacted := hr
      pulse := by rw [h]; rfl
      pto := by rw [h]; rfl
      tank := by rw [h]; rfl
      auth := by rw [h]; rfl
      lines := fun m h1 h2 h3 _ => hlines m h1 h2 h3
      bounds := .of_eq (by rw [h]; rfl) hh (.of_links hlinks)
      entries := fun _ _ => by rw [h]; rfl
      listed := fun _ _ => by rw [h]; rfl
      notices := ⟨[], by rw [h]; simp, by simp⟩
      reports := .of_links hlinks
      stop := fun h0 => h0.of_eq hr.disc (by rw [h]; rfl)
      road := by rw [h]; rfl
      mode := by rw [h]; rfl
      ready := hlines pumpReady (by decide) (by decide) (by decide)
      told := .of_links hlinks }

theorem command_judged {N : Fin 32 → Prop} {n : Fin 10} (hn : n = driveEn ∨ n = thrLimit ∨ n = alarmLine)
    (on : Bool) (s : State) : Judged N s (command n on s) := .of_lineOnly (command_lineOnly n on s) hn

/-- A report of an entry of `N`. -/
theorem raiseLockout_judged {N : Fin 32 → Prop} {n : Fin 32} (hn : N n) (s : State) :
    Judged N s (raise (.lockout n) s) where
  reacted := raise_reacted _ s
  pulse := rfl
  pto := rfl
  tank := rfl
  auth := rfl
  lines := fun _ _ _ _ _ => rfl
  bounds := .of_eq rfl rfl ((raise_keepsReports _ s).mono fun _ hk => by rw [hk]; simp)
  entries := fun _ _ => rfl
  listed := fun _ _ => .rfl
  notices := ⟨[], by simp, by simp⟩
  reports := (raise_keepsReports _ s).mono fun k hk => .inr (.inr ⟨n, hn, hk⟩)
  stop := id
  road := rfl
  mode := rfl
  ready := rfl
  told := (raise_keepsReports _ s).mono fun k hk => .inr ⟨n, hn, hk⟩

theorem rejudgeBounds_judged {N : Fin 32 → Prop} (s : State) : Judged N s (rejudgeBounds s) := by
  have hb := rejudgeBounds_rebounded s
  have hr := rejudgeBounds_reacted s
  have hk := rejudgeBounds_keepsReports s
  obtain h | ⟨d, duty, -, -, ⟨h, -⟩ | h⟩ := rejudgeBounds_cases s <;> rw [h] at hb hr hk ⊢
  · exact .refl N s
  all_goals exact
    { reacted := hr
      pulse := rfl
      pto := rfl
      tank := rfl
      auth := rfl
      lines := fun _ _ _ _ _ => rfl
      bounds := hb
      entries := fun _ _ => rfl
      listed := fun _ _ => .rfl
      notices := ⟨[], by simp, by simp⟩
      reports := hk.mono fun k hk => .inl hk
      stop := id
      road := rfl
      mode := rfl
      ready := rfl
      told := hk.mono fun k hk => .inl hk }

theorem interlockLines_judged {N : Fin 32 → Prop} (s : State) : Judged N s (interlockLines s) :=
  (command_judged (.inl rfl) _ s).trans (command_judged (.inr (.inl rfl)) _ _)

theorem alarmJudge_judged {N : Fin 32 → Prop} (s : State) : Judged N s (alarmJudge s) := by
  have hc : ∀ c, Judged N s (s.modIlk fun k => { k with cadence := c }) := fun c =>
    .of_ilk _ rfl (fun _ _ => rfl) (fun _ _ => .rfl) ⟨[], by simp, by simp⟩ fun h => h.of_eq rfl rfl
  unfold alarmJudge
  split
  · exact (hc _).trans (command_judged (.inr (.inr rfl)) _ _)
  · exact (hc _).trans (command_judged (.inr (.inr rfl)) _ _)
  · exact .refl N s

theorem listChanged_judged {N : Fin 32 → Prop} (before : ActionSet) (s : State) :
    Judged N s (listChanged before s) := by
  have h := (interlockLines_judged (N := N) s).trans (alarmJudge_judged _)
  unfold listChanged
  dsimp only
  split
  · exact h
  · exact h.trans (rejudgeBounds_judged _)

end Sys2Proof.Machine
end

section
/-! PROOF. One judgment of a lockout entry (R38 to R42): where the entry, the list and the notices stand after it. -/

namespace Sys2Proof.Machine

/-! ## What joins and leaves make of the interlock unit -/

theorem LineOnly.ilk {n : Fin 10} {s t : State} (h : LineOnly n s t) : t.ilk = s.ilk := by rw [h]; rfl
theorem LineOnly.pto {n : Fin 10} {s t : State} (h : LineOnly n s t) : t.pto = s.pto := by rw [h]; rfl
theorem LineOnly.gov {n : Fin 10} {s t : State} (h : LineOnly n s t) : t.gov = s.gov := by rw [h]; rfl
theorem LineOnly.tank {n : Fin 10} {s t : State} (h : LineOnly n s t) : t.tank = s.tank := by rw [h]; rfl
theorem LineOnly.auth {n : Fin 10} {s t : State} (h : LineOnly n s t) : t.auth = s.auth := by rw [h]; rfl
theorem LineOnly.pulse {n : Fin 10} {s t : State} (h : LineOnly n s t) : t.pulse = s.pulse := by rw [h]; rfl
theorem LineOnly.road {n : Fin 10} {s t : State} (h : LineOnly n s t) : t.road = s.road := by rw [h]; rfl
theorem LineOnly.links {n : Fin 10} {s t : State} (h : LineOnly n s t) : t.links = s.links := by rw [h]; rfl

theorem command_ilk (n : Fin 10) (on : Bool) (s : State) : (command n on s).ilk = s.ilk :=
  (command_lineOnly n on s).ilk

theorem interlockLines_ilk (s : State) : (interlockLines s).ilk = s.ilk :=
  (command_ilk _ _ _).trans (command_ilk _ _ _)

theorem rejudgeBounds_ilk (s : State) : (rejudgeBounds s).ilk = s.ilk := by
  obtain h | ⟨d, duty, -, -, ⟨h, -⟩ | h⟩ := rejudgeBounds_cases s <;> rw [h] <;> rfl

theorem alarmJudge_ilk (s : State) : ∃ c, (alarmJudge s).ilk = { s.ilk with cadence := c } := by
  unfold alarmJudge
  split
  · exact ⟨_, command_ilk _ _ _⟩
  · exact ⟨_, command_ilk _ _ _⟩
  · exact ⟨s.ilk.cadence, rfl⟩

/-- A changed list moves nothing of the interlock unit but the cadence timer. -/
theorem listChanged_ilk (before : ActionSet) (s : State) :
    ∃ c, (listChanged before s).ilk = { s.ilk with cadence := c } := by
  obtain ⟨c, hc⟩ := alarmJudge_ilk (interlockLines s)
  refine ⟨c, ?_⟩
  unfold listChanged
  dsimp only
  split
  · rw [hc, interlockLines_ilk]
  · rw [rejudgeBounds_ilk, hc, interlockLines_ilk]

/-- The join notice of an entry, if some block takes one (R44). -/
def noticeOf (n : Fin 32) (s : State) : List Notice :=
  if givesNotice n (entryActions s n) then [⟨n, entryActions s n⟩] else []

/-- An entry that joins is ACTIVE, stands at the list's end and gives its notice (R42, R44). -/
theorem join_ilk (n : Fin 32) (s : State) : ∃ c, (join n s).ilk = { s.ilk with
    entries := s.ilk.entries.set n ⟨.active, none, false⟩, active := s.ilk.active ++ [n], cadence := c
    notices := s.ilk.notices ++ noticeOf n s } := by
  unfold join noticeOf
  dsimp only
  obtain ⟨c, hc⟩ := listChanged_ilk (actionsInForce s) (raise (.lockout n)
    ((s.modEntry n fun _ => ⟨.active, none, false⟩).modIlk fun k => { k with active := k.active ++ [n] }))
  refine ⟨c, ?_⟩
  split
  · rw [State.modIlk_ilk, hc]
    simp
  · rw [hc]
    simp

/-- An entry other than 0 that leaves is CLEAR and off the list. -/
theorem leave_ilk {n : Fin 32} (hn : n ≠ 0) (s : State) : ∃ c, (leave n s).ilk = { s.ilk with
    entries := s.ilk.entries.set n ⟨.clear, none, false⟩, active := s.ilk.active.filter (· != n), cadence := c } := by
  unfold leave
  dsimp only
  rw [if_neg hn]
  obtain ⟨c, hc⟩ := listChanged_ilk (actionsInForce s) (raise (.lockout n)
    ((s.modEntry n fun _ => ⟨.clear, none, false⟩).modIlk fun k =>
      { k with active := k.active.filter (fun m => m != n) }))
  exact ⟨c, by rw [hc]; simp⟩

theorem join_entry (n : Fin 32) (s : State) : (join n s).ilk.entries[n] = ⟨.active, none, false⟩ := by
  obtain ⟨c, h⟩ := join_ilk n s
  simp [h]

theorem leave_entry {n : Fin 32} (hn : n ≠ 0) (s : State) : (leave n s).ilk.entries[n] = ⟨.clear, none, false⟩ := by
  obtain ⟨c, h⟩ := leave_ilk hn s
  simp [h]

/-! ## Joins and leaves as judgments -/

/-- The move of one entry's record. -/
theorem modEntry_judged (n : Fin 32) (f : Entry → Entry) {s : State}
    (h0 : NoStop s → NoStop (s.modEntry n f)) : Judged (· = n) s (s.modEntry n f) :=
  .of_ilk _ rfl (fun _ hm => State.modEntry_entry_other s hm f) (fun _ _ => .rfl) ⟨[], by simp, by simp⟩ h0

/-- An entry that is not CLEAR keeps the pump stop from joining. -/
theorem noStop_modEntry {n : Fin 32} {f : Entry → Entry} {s : State} (h : n = 0 → (f s.ilk.entries[n]).state ≠ .clear)
    (hs : NoStop s) : NoStop (s.modEntry n f) := by
  by_cases hn : n = 0
  · subst hn
    intro hc
    rw [State.modEntry_entry_self] at hc
    exact absurd hc (h rfl)
  · exact hs.of_eq rfl (State.modEntry_entry_other s (Ne.symm hn) f)

theorem Judged.notify {N : Fin 32 → Prop} {s t : State} (h : Judged N s t) {x : Notice} (hx : Joined N s x) :
    Judged N s (t.modIlk fun k => { k with notices := k.notices ++ [x] }) :=
  { h with
    bounds := h.bounds.trans (.of_eq rfl rfl (.of_links rfl))
    notices := by
      obtain ⟨new, e, j⟩ := h.notices
      refine ⟨new ++ [x], by simp [e], fun y hy => ?_⟩
      obtain hy | hy := List.mem_append.1 hy
      · exact j y hy
      · rwa [List.mem_singleton.1 hy] }

/-- What joins and leaves share: an entry's record and its place in the list change, with its report. -/
theorem listMoved_judged (n : Fin 32) (u : Entry) (f : List (Fin 32) → List (Fin 32))
    (hf : ∀ l, ∀ m ≠ n, (m ∈ f l ↔ m ∈ l)) (h0 : n = 0 → u.state ≠ .clear) (before : ActionSet) (s : State) :
    Judged (· = n) s (listChanged before (raise (.lockout n)
      ((s.modEntry n fun _ => u).modIlk fun k => { k with active := f k.active }))) := by
  have h1 : Judged (· = n) s (s.modEntry n fun _ => u) := modEntry_judged n _ (noStop_modEntry h0)
  have h2 : ∀ v : State, Judged (· = n) v (v.modIlk fun k => { k with active := f k.active }) := fun v =>
    .of_ilk _ rfl (fun _ _ => rfl) (fun m hm => hf _ m hm) ⟨[], by simp, by simp⟩ fun h => h.of_eq rfl rfl
  exact h1.trans ((h2 _).trans ((raiseLockout_judged (N := (· = n)) rfl _).trans (listChanged_judged _ _)))

theorem join_judged {n : Fin 32} {s : State} (hd : entryDelay s n = 0) (h0 : NoStop s → n ≠ 0) :
    Judged (· = n) s (join n s) := by
  have hj := listMoved_judged n ⟨.active, none, false⟩ (· ++ [n]) (fun l m hm => by simp [hm]) (by simp)
    (actionsInForce s) s
  unfold join
  dsimp only
  split
  · exact hj.notify ⟨rfl, rfl, hd, h0⟩
  · exact hj

theorem leave_judged {n : Fin 32} (hn : n ≠ 0) (s : State) : Judged (· = n) s (leave n s) := by
  have hl := listMoved_judged n ⟨.clear, none, false⟩ (·.filter (· != n)) (fun l m hm => by simp [hm])
    (fun h => absurd h hn) (actionsInForce s) s
  unfold leave
  dsimp only
  rwa [if_neg hn]

/-- Entry 0 latches, so that no judgment takes it out of the list. -/
theorem ne_zero_of_not_latches {n : Fin 32} {s : State} (h : ¬ entryLatches s n = true) : n ≠ 0 := by
  rintro rfl
  exact h rfl

/-- Entry 0's source is effective exactly while PUMP_STOP is settled and active (R34). -/
theorem effective_zero (s : State) : effective s 0 = lineSource s 3 := by
  have : (entryModes s 0).has s.ilk.mode = true := by cases s.ilk.mode <;> rfl
  rw [effective, this, Bool.and_true]
  rfl

/-- A judgment of an entry moves that entry alone (R38 to R41). -/
theorem judge_judged (n : Fin 32) (s : State) : Judged (· = n) s (judge n s) := by
  unfold judge
  split
  · rename_i hc he
    have h0 : NoStop s → n ≠ 0 := by
      rintro hs rfl
      rw [effective_zero, hs hc] at he
      cases he
    split
    · exact join_judged ‹_› h0
    · exact modEntry_judged n _ (noStop_modEntry fun _ => by simp)
  · rename_i hc he
    refine modEntry_judged n _ fun hs => ?_
    by_cases hn : n = 0
    · subst hn
      exact fun _ => (effective_zero s).symm.trans he
    · exact hs.of_eq rfl (State.modEntry_entry_other s (Ne.symm hn) _)
  · split
    · exact (modEntry_judged n _ (noStop_modEntry fun _ => by simp)).trans (raiseLockout_judged (N := (· = n)) rfl _)
    · exact leave_judged (ne_zero_of_not_latches ‹_›) s
  · exact (modEntry_judged n _ (noStop_modEntry fun _ => by simp)).trans (raiseLockout_judged (N := (· = n)) rfl _)
  · exact .refl _ s

/-- Whether a judgment of an entry makes it join at once. -/
def joinsAt (n : Fin 32) (s : State) : Bool :=
  s.ilk.entries[n].state == .clear && effective s n && entryDelay s n == 0

/-- A judgment takes its entry where R38 to R41 have it. -/
theorem judge_entry (n : Fin 32) (s : State) :
    (judge n s).ilk.entries[n] =
      entryMoved s.ilk.entries[n] (effective s n) (entryDelay s n) (entryLatches s n) := by
  unfold judge entryMoved
  split <;> rename_i hc he
  · simp only [hc, he]
    split
    · exact join_entry n s
    · exact (State.modEntry_entry_self s n _).trans (by simp [ms, Nat.mul_comm])
  · simp only [hc, he]
    exact State.modEntry_entry_self s n _
  · simp only [hc, he]
    split
    · exact State.modEntry_entry_self s n fun e => { e with state := .held }
    · exact leave_entry (ne_zero_of_not_latches ‹_›) s
  · simp only [hc, he]
    exact State.modEntry_entry_self s n fun e => { e with state := .active }
  · rename_i h1 h2
    split
    · exact (h1 ‹_› ‹_›).elim
    · exact (he ‹_› ‹_›).elim
    · exact (h2 ‹_› ‹_›).elim
    · exact (hc ‹_› ‹_›).elim
    · rfl

/-- A judgment gives a notice where its entry joins, and no other. -/
theorem judge_notices (n : Fin 32) (s : State) :
    (judge n s).ilk.notices = s.ilk.notices ++ if joinsAt n s then noticeOf n s else [] := by
  have hno : s.ilk.entries[n].state ≠ .clear ∨ effective s n = false → joinsAt n s = false := by
    rintro (h | h)
    · rw [joinsAt, beq_false_of_ne h, Bool.false_and, Bool.false_and]
    · rw [joinsAt, h, Bool.and_false, Bool.false_and]
  unfold judge
  split <;> rename_i hc he
  · have hj : joinsAt n s = (entryDelay s n == 0) := by rw [joinsAt, hc, he]; rfl
    rw [hj]
    split
    · obtain ⟨c, h⟩ := join_ilk n s
      simp [*]
    · simp [*]
  · simp [hno (.inr he)]
  · have hj := hno (.inr he)
    split
    · simp [hj]
    · obtain ⟨c, h⟩ := leave_ilk (ne_zero_of_not_latches ‹_›) s
      simp [hj, h]
  · simp [hno (.inl (by rw [hc]; decide))]
  · rename_i h1 _
    rw [hno, if_neg (by decide), List.append_nil]
    by_cases hx : s.ilk.entries[n].state = .clear
    · exact .inr (by simpa using h1 hx)
    · exact .inl hx

/-- An entry that joins has its report, ACTIVE and unsilenced (R45). -/
theorem join_reported (n : Fin 32) (s : State) : Reported (.lockout n) ⟨2, 0, 0⟩ (join n s) := by
  have h : ∀ b, Reported (.lockout n) ⟨2, 0, 0⟩ (listChanged b (raise (.lockout n)
      ((s.modEntry n fun _ => ⟨.active, none, false⟩).modIlk fun k =>
        { k with active := k.active ++ [n] }))) := by
    intro b
    refine (listChanged_judged (N := fun _ => False) b _).told _ _ (by simp) ?_
    convert raise_reported (.lockout n) _ using 1
    simp [recordOf, EntryState.code, byte, bit]
  unfold join
  dsimp only
  split <;> exact h _

/-- Every entry is judged in one mode. -/
theorem judgeAll_judged (s : State) : Judged (fun _ => True) s (judgeAll s) := by
  have h : ∀ (l : List (Fin 32)) (u : State), Judged (fun _ => True) u (l.foldl (fun s n => judge n s) u) := by
    intro l
    induction l with
    | nil => exact fun u => .refl _ u
    | cons n l ih => exact fun u => ((judge_judged n u).mono fun _ _ => trivial).trans (ih _)
  exact h _ s

end Sys2Proof.Machine
end

section
/-! PROOF. The end of a command (R44): join notices that the PTO controller does not act on and that begin no stop
hold move the governor alone, to IDLE (R77). -/

namespace Sys2Proof.Machine

/-- `t` is `s` but for its governor, perhaps taken to IDLE with its bounds judged, and its GOVERNOR report. -/
structure Idled (s t : State) : Prop where
  rest : t = { s with gov := t.gov, links := t.links }
  reacted : Reacted s t
  kept : { t.gov with state := s.gov.state, demand := s.gov.demand, dmax := s.gov.dmax
                      capActive := s.gov.capActive, duty := s.gov.duty } = s.gov
  state : t.gov.state = s.gov.state ∨ t.gov.state = .idle ∧ s.gov.state ≠ .off
  idle : AtIdle s → AtIdle t
  duty : s.out.hold = true → s.gov.duty = 50 → t.gov.duty = 50
  told : GovernorTold s → GovernorTold t
  reports : KeepsReports (· = .governor) s t

theorem Idled.refl (s : State) : Idled s s :=
  ⟨rfl, .refl s, rfl, .inl rfl, id, fun _ h => h, id, .of_links rfl⟩

theorem Idled.out {s t : State} (h : Idled s t) : t.out = s.out := by rw [h.rest]
theorem Idled.ilk {s t : State} (h : Idled s t) : t.ilk = s.ilk := by rw [h.rest]
theorem Idled.pto {s t : State} (h : Idled s t) : t.pto = s.pto := by rw [h.rest]
theorem Idled.tank {s t : State} (h : Idled s t) : t.tank = s.tank := by rw [h.rest]
theorem Idled.pulse {s t : State} (h : Idled s t) : t.pulse = s.pulse := by rw [h.rest]
theorem Idled.road {s t : State} (h : Idled s t) : t.road = s.road := by rw [h.rest]
theorem Idled.auth {s t : State} (h : Idled s t) : t.auth = s.auth := by rw [h.rest]
theorem Idled.ns {s t : State} (h : Idled s t) : t.gov.ns = s.gov.ns := (congrArg Governor.ns h.kept :)
theorem Idled.ps {s t : State} (h : Idled s t) : t.gov.ps = s.gov.ps := (congrArg Governor.ps h.kept :)
theorem Idled.work {s t : State} (h : Idled s t) : t.gov.work = s.gov.work := (congrArg Governor.work h.kept :)
theorem Idled.fallback {s t : State} (h : Idled s t) : t.gov.fallback = s.gov.fallback :=
  (congrArg Governor.fallback h.kept :)
theorem Idled.casingHot {s t : State} (h : Idled s t) : t.gov.casingHot = s.gov.casingHot :=
  (congrArg Governor.casingHot h.kept :)

theorem Idled.trans {s t u : State} (h : Idled s t) (k : Idled t u) : Idled s u where
  rest := by rw [k.rest, h.rest]
  reacted := h.reacted.trans k.reacted
  kept := by rw [← h.kept, ← k.kept]
  state := by
    obtain hk | ⟨hk, ho⟩ := k.state
    · rw [hk]
      exact h.state
    · refine .inr ⟨hk, fun hs => ho ?_⟩
      obtain h' | ⟨-, h'⟩ := h.state
      · rwa [h']
      · exact absurd hs h'
  idle := fun hs => k.idle (h.idle hs)
  duty := fun hh hd => k.duty (by rwa [h.out]) (h.duty hh hd)
  told := fun hs => k.told (h.told hs)
  reports := h.reports.trans k.reports

/-- The order of an update of the interlock unit and an answer of the governor does not matter. -/
theorem Idled.modIlk {s t : State} (h : Idled s t) (f : Interlock → Interlock) : Idled (s.modIlk f) (t.modIlk f) where
  rest := by
    rw [h.rest]
    rfl
  reacted := h.reacted
  kept := h.kept
  state := h.state
  idle := h.idle
  duty := h.duty
  told := h.told
  reports := h.reports

theorem rejudgeBounds_idled (s : State) : Idled s (rejudgeBounds s) := by
  have hb := rejudgeBounds_rebounded s
  refine ⟨?_, rejudgeBounds_reacted s, ?_, .inl hb.state, hb.idle, hb.duty, hb.told, rejudgeBounds_keepsReports s⟩
  · obtain h | ⟨d, duty, -, -, ⟨h, -⟩ | h⟩ := rejudgeBounds_cases s <;> rw [h] <;> rfl
  · rw [hb.state.symm]
    exact hb.kept

/-- FORCE_IDLE leaves a governor that runs in IDLE (R77). -/
theorem governorForceIdle_state (s : State) :
    (governorForceIdle s).gov.state = if s.gov.state = .off then .off else .idle := by
  unfold governorForceIdle
  split
  · assumption
  · dsimp only
    rw [(rejudgeBounds_rebounded _).state]
    split <;> rfl

theorem governorForceIdle_idled (s : State) : Idled s (governorForceIdle s) := by
  unfold governorForceIdle
  split
  · exact .refl s
  · rename_i hoff
    dsimp only
    refine Idled.trans ?_ (rejudgeBounds_idled _)
    split
    · rename_i hi
      have : (s.modGov fun g => { g with state := .idle }) = s := by
        unfold State.modGov
        rw [← hi]
      rw [this]
      exact .refl s
    · refine ⟨rfl, .refl s, rfl, .inr ⟨rfl, hoff⟩, fun h => h, fun _ h => h, fun _ => raise_reported _ _, ?_⟩
      exact KeepsReports.trans (t := s.modGov _) (.of_links rfl) (raise_keepsReports _ _)

/-- A join notice that the PTO controller does not act on in its present context, and that begins no stop hold (R44,
R59, R62, R64, R65). -/
def Deaf (p : Pto) (x : Notice) : Prop :=
  x.entry ≠ 0 ∧
    (x.actions.inhibitPto = false ∧ x.actions.releasePto = false ∨
      p.state ≠ .qualify ∧ p.state ≠ .engaging ∧ (p.state = .engaged → x.actions.releasePto = false))

theorem ptoOnNotice_of_deaf {s : State} {x : Notice} (h0 : x.entry ≠ 0) (h1 : s.pto.state ≠ .qualify)
    (h2 : s.pto.state ≠ .engaging) (h3 : s.pto.state = .engaged → x.actions.releasePto = false) :
    ptoOnNotice x s = s := by
  unfold ptoOnNotice
  split <;> rename_i hs <;> simp_all

/-- Such a notice reaches the governor alone. -/
theorem takeNotice_of_deaf {s : State} {x : Notice} (h : Deaf s.pto x) :
    takeNotice x s = if x.actions.forceIdle then governorForceIdle s else s := by
  obtain ⟨h0, ⟨hi, hr⟩ | ⟨h1, h2, h3⟩⟩ := h
  · simp [takeNotice, h0, hi, hr]
  · simp [takeNotice, h0, ptoOnNotice_of_deaf h0 h1 h2 h3]

theorem takeNotice_idled {s : State} {x : Notice} (h : Deaf s.pto x) : Idled s (takeNotice x s) := by
  rw [takeNotice_of_deaf h]
  split
  · exact governorForceIdle_idled s
  · exact .refl s

theorem takeNotices_idled (k : Nat) (s : State) (h : ∀ x ∈ s.ilk.notices, Deaf s.pto x) :
    Idled (s.modIlk fun i => { i with notices := [] }) (takeNotices k s) := by
  induction k generalizing s with
  | zero => exact .refl _
  | succ k ih =>
    unfold takeNotices
    split
    · rename_i hn
      have : (s.modIlk fun i => { i with notices := [] }) = s := by
        unfold State.modIlk
        rw [← hn]
      rw [this]
      exact .refl s
    · rename_i x rest hn
      rw [hn] at h
      have h1 := takeNotice_idled (s := s.modIlk fun i => { i with notices := rest }) (x := x)
        (h x List.mem_cons_self)
      have hi := h1.ilk
      refine (h1.modIlk fun i => { i with notices := [] }).trans (ih _ fun y hy => ?_)
      rw [h1.pto]
      rw [hi] at hy
      exact h y (List.mem_cons_of_mem x hy)

/-- A command that has given deaf notices alone leaves its work, and the governor perhaps in IDLE. -/
theorem settle_idled {s : State} (h : ∀ x ∈ s.ilk.notices, Deaf s.pto x) :
    Idled (s.modIlk fun i => { i with notices := [] }) (settle s) := takeNotices_idled _ s h

/-- Where no more notices wait than are taken, the governor is in IDLE if one of them forces it (R77). -/
theorem takeNotices_state (k : Nat) (s : State) (hk : s.ilk.notices.length ≤ k)
    (h : ∀ x ∈ s.ilk.notices, Deaf s.pto x) :
    (takeNotices k s).gov.state =
      if (s.ilk.notices.any fun x => x.actions.forceIdle) = true ∧ s.gov.state ≠ .off then .idle
      else s.gov.state := by
  induction k generalizing s with
  | zero =>
    have hn : s.ilk.notices = [] := List.length_eq_zero_iff.1 (Nat.le_zero.1 hk)
    simp [takeNotices, hn]
  | succ k ih =>
    unfold takeNotices
    split
    · rename_i hn
      simp [hn]
    · rename_i x rest hn
      rw [hn] at h hk
      have hd : Deaf (s.modIlk fun i => { i with notices := rest }).pto x := h x List.mem_cons_self
      have h1 := takeNotice_idled hd
      have hi : (takeNotice x (s.modIlk fun i => { i with notices := rest })).ilk.notices = rest := by rw [h1.ilk]; rfl
      rw [ih _ (by rw [hi]; simpa using hk) fun y hy => by
        rw [h1.pto]
        rw [hi] at hy
        exact h y (List.mem_cons_of_mem x hy), hi, hn, takeNotice_of_deaf hd]
      cases hf : x.actions.forceIdle
      · simp [hf]
      · simp only [if_true, governorForceIdle_state, State.modIlk_gov, List.any_cons, hf, Bool.true_or]
        by_cases ho : s.gov.state = .off <;> simp [ho]

theorem settle_state {s : State} (hk : s.ilk.notices.length ≤ 256) (h : ∀ x ∈ s.ilk.notices, Deaf s.pto x) :
    (settle s).gov.state =
      if (s.ilk.notices.any fun x => x.actions.forceIdle) = true ∧ s.gov.state ≠ .off then .idle
      else s.gov.state := takeNotices_state _ s hk h

end Sys2Proof.Machine
end

section
/-! PROOF. A road edge (R11, R14): one judgment of entry 6, whose notice reaches the governor alone. -/

namespace Sys2Proof.Machine

/-- The notices that judgments of entries give whose actions are none of the PTO controller's. -/
theorem Interlocked.deaf {N : Fin 32 → Prop} {s t : State} (h : Interlocked N s t) (h0 : NoticesTaken s)
    (hN : ∀ n, N n → entryDelay s n = 0 →
      n ≠ 0 ∧ (entryActions s n).inhibitPto = false ∧ (entryActions s n).releasePto = false) :
    ∀ x ∈ t.ilk.notices, Deaf t.pto x := by
  obtain ⟨new, e, j⟩ := h.notices
  intro x hx
  rw [e, h0, List.nil_append] at hx
  obtain ⟨hn, ha, hd, -⟩ := j x hx
  obtain ⟨h1, h2, h3⟩ := hN _ hn hd
  exact ⟨h1, .inl ⟨ha ▸ h2, ha ▸ h3⟩⟩

/-- A judgment that gives a deaf notice at most, with what the notice does. -/
theorem Judged.settle {N : Fin 32 → Prop} {s t : State} (h : Judged N s t) (hd : ∀ x ∈ t.ilk.notices, Deaf t.pto x) :
    Reacted s (settle t) ∧ (settle t).pto = s.pto ∧ (settle t).ilk.mode = s.ilk.mode ∧
      (∀ m : Fin 32, (settle t).ilk.entries[m] = t.ilk.entries[m]) ∧ (settle t).road = s.road ∧
      (settle t).pulse = s.pulse ∧ (settle t).out = t.out ∧ (settle t).tank = s.tank := by
  have hi := settle_idled hd
  refine ⟨h.reacted.trans (settle_reacted t), hi.pto.trans h.pto, ?_, fun m => ?_, hi.road.trans h.road,
    hi.pulse.trans h.pulse, hi.out, hi.tank.trans h.tank⟩
  · rw [hi.ilk]
    exact h.mode
  · rw [hi.ilk]
    rfl

/-- The table of R11 as the statements read it: whether the level the edge leaves agrees with the other phase. -/
theorem edgeCount_eq (ph : RoadPhase) (r : Road) :
    edgeCount ph r = match ph with
      | .a => if (!r.phaseA) = r.phaseB then -1 else 1
      | .b => if (!r.phaseB) = r.phaseA then 1 else -1 := by
  cases ph <;> unfold edgeCount <;> dsimp only
  · cases r.phaseA <;> cases r.phaseB <;> rfl
  · cases r.phaseA <;> cases r.phaseB <;> rfl

/-- Entry 6 is effective in PUMP at or above the creep limit (R34). -/
theorem effective_creep (s : State) :
    effective s 6 = (s.ilk.mode == .pump && decide (s.cfgN 63 ≤ s.road.creep.natAbs)) := by
  have hm : (entryModes s 6).has s.ilk.mode = (s.ilk.mode == .pump) := by cases s.ilk.mode <;> rfl
  have hs : sourcePresent s 6 = decide (s.cfg 63 ≤ (s.road.creep.natAbs : Int)) := rfl
  rw [effective, hm, hs, Bool.and_comm, s.cfg_eq_cfgN (by decide)]
  exact congrArg _ (decide_eq_decide.2 Int.ofNat_le)

/-- Settles O17: the counters take the edge, and what follows is a judgment of entry 6 (`judge_judged`). -/
theorem roadEdgeIsCounted : Obligations.RoadEdgeIsCounted := by
  intro ph s hrun h0 rises other count
  have hcount : edgeCount ph s.road = count := by rw [edgeCount_eq]; cases ph <;> rfl
  have hsat : ∀ x, saturate x = max (-32767) (min 32767 x) := fun x => by rw [saturate, clampInt, min_comm]
  let u := (s.modRoad (flipPhase ph)).modRoad fun r =>
    { r with gate := saturate (r.gate + count), creep := saturate (r.creep + count) }
  have hcreep : u.road.creep = saturate (s.road.creep + count) := by cases ph <;> rfl
  have hu : Reacted { s with road := { s.road with
      phaseA := if ph = .a then !s.road.phaseA else s.road.phaseA
      phaseB := if ph = .b then !s.road.phaseB else s.road.phaseB
      gate := max (-32767) (min 32767 (s.road.gate + count)) } } u := by
    refine ⟨rfl, rfl, ?_, rfl, rfl, rfl, rfl, rfl, rfl, rfl, rfl, rfl, rfl, rfl, rfl, rfl, rfl, rfl, rfl⟩
    simp only [← hsat]
    cases ph <;> rfl
  have hj := judge_judged 6 u
  obtain ⟨hr, -, hmode, hent, hroad, hpulse, -, -⟩ :=
    hj.settle (hj.deaf h0 (by rintro _ rfl -; exact ⟨by decide, rfl, rfl⟩))
  refine ⟨settle (judge 6 u), ?_, hu.trans hr, ?_, ?_, ?_, hmode⟩
  · change execRoadEdge ph s = _
    unfold execRoadEdge
    simp [State.inService, hrun, hcount, u]
  · rw [hroad, hcreep, hsat]
  · rw [hroad]
    exact (hent 6).trans ((judge_entry 6 u).trans (by rw [effective_creep]; rfl))
  · rw [hpulse]
    rfl

end Sys2Proof.Machine
end

section
/-! PROOF. The apparatus mode (R25 to R32): which mode each judgment gives, and what a change of mode moves. -/

namespace Sys2Proof.Machine

/-! ## A change of mode -/

/-- What a change of mode starts from: the new mode, with the creep counter zeroed on an entry into PUMP (R27). -/
def modeBegun (m : Mode) (s : State) : State :=
  if m = .pump then (s.modIlk fun k => { k with mode := m }).modRoad fun r => { r with creep := 0 }
  else s.modIlk fun k => { k with mode := m }

theorem setMode_eq (m : Mode) (s : State) : setMode m s =
    pumpReadyJudge (rejudgeBounds (raise .mode (interlockLines (judgeAll (modeBegun m s))))) := rfl

theorem modeBegun_road (m : Mode) (s : State) :
    (modeBegun m s).road = if m = .pump then { s.road with creep := 0 } else s.road := by
  unfold modeBegun
  split <;> rfl

theorem modeBegun_ilk (m : Mode) (s : State) : (modeBegun m s).ilk = { s.ilk with mode := m } := by
  unfold modeBegun
  split <;> rfl

theorem modeBegun_interlocked {N : Fin 32 → Prop} (m : Mode) (s : State) : Interlocked N s (modeBegun m s) := by
  unfold modeBegun
  split
  all_goals exact
    { reacted := .modIlk _ s
      pulse := rfl
      pto := rfl
      tank := rfl
      auth := rfl
      lines := fun _ _ _ _ _ => rfl
      bounds := .of_eq rfl rfl (.of_links rfl)
      entries := fun _ _ => rfl
      listed := fun _ _ => .rfl
      notices := ⟨[], by simp, by simp⟩
      reports := .of_links rfl
      stop := id }

theorem raiseMode_interlocked {N : Fin 32 → Prop} (s : State) : Interlocked N s (raise .mode s) where
  reacted := raise_reacted _ s
  pulse := rfl
  pto := rfl
  tank := rfl
  auth := rfl
  lines := fun _ _ _ _ _ => rfl
  bounds := .of_eq rfl rfl ((raise_keepsReports _ s).mono fun _ hk => by rw [hk]; simp)
  entries := fun _ _ => rfl
  listed := fun _ _ => .rfl
  notices := ⟨[], by simp, by simp⟩
  reports := (raise_keepsReports _ s).mono fun _ hk => .inr (.inl hk)
  stop := id

theorem pumpReadyJudge_lineOnly (s : State) : LineOnly pumpReady s (pumpReadyJudge s) := command_lineOnly _ _ s

theorem pumpReadyJudge_interlocked {N : Fin 32 → Prop} (s : State) : Interlocked N s (pumpReadyJudge s) := by
  have h := pumpReadyJudge_lineOnly s
  have hr := Reacted.of_lineOnly h
  exact
    { reacted := hr
      pulse := h.pulse
      pto := h.pto
      tank := h.tank
      auth := h.auth
      lines := fun _ _ _ _ h4 => h.other h4
      bounds := .of_eq h.gov h.hold (.of_links h.links)
      entries := fun _ _ => by rw [h.ilk]
      listed := fun _ _ => by rw [h.ilk]
      notices := ⟨[], by rw [h.ilk]; simp, by simp⟩
      reports := .of_links h.links
      stop := fun h0 => h0.of_eq hr.disc (by rw [h.ilk]) }

/-- What follows the entries' judgments at a change of mode moves no entry and leaves the mode. -/
theorem setMode_tail_ilk (s : State) : (pumpReadyJudge (rejudgeBounds (raise .mode (interlockLines s)))).ilk = s.ilk := by
  rw [(pumpReadyJudge_lineOnly _).ilk, rejudgeBounds_ilk, raise_ilk, interlockLines_ilk]

theorem setMode_interlocked (m : Mode) (s : State) : Interlocked (fun _ => True) s (setMode m s) := by
  rw [setMode_eq]
  exact (modeBegun_interlocked m s).trans ((judgeAll_judged _).toInterlocked.trans
    ((interlockLines_judged _).toInterlocked.trans ((raiseMode_interlocked _).trans
      ((rejudgeBounds_judged _).toInterlocked.trans (pumpReadyJudge_interlocked _)))))

theorem setMode_mode (m : Mode) (s : State) : (setMode m s).ilk.mode = m := by
  rw [setMode_eq, setMode_tail_ilk, (judgeAll_judged _).mode, modeBegun_ilk]

theorem setMode_road (m : Mode) (s : State) :
    (setMode m s).road = if m = .pump then { s.road with creep := 0 } else s.road := by
  rw [setMode_eq, (pumpReadyJudge_lineOnly _).road, (rejudgeBounds_judged (N := fun _ => True) _).road, raise_road,
    (interlockLines_judged (N := fun _ => True) _).road, (judgeAll_judged _).road, modeBegun_road]

/-- A change of mode has its MODE report (R25). -/
theorem setMode_reported (m : Mode) (s : State) : Reported .mode ⟨byte m.code, 0, 0⟩ (setMode m s) := by
  have hm : (interlockLines (judgeAll (modeBegun m s))).ilk.mode = m := by
    rw [interlockLines_ilk, (judgeAll_judged _).mode, modeBegun_ilk]
  have h := raise_reported .mode (interlockLines (judgeAll (modeBegun m s)))
  rw [recordOf, hm] at h
  rw [setMode_eq]
  have hb := (rejudgeBounds_judged (N := fun _ => False) _).told _ _ (by simp) h
  rwa [Reported, (pumpReadyJudge_lineOnly _).links]

/-! ## An entry that several judgments move -/

/-- Judgments taken one after another move an entry once, where its source stays as it was. -/
theorem foldl_judge_entry (n : Fin 32) (src : Bool) : ∀ (l : List (Fin 32)) (s : State), l.Nodup →
    (∀ u, Judged (· ≠ n) s u → effective u n = src) →
    (l.foldl (fun s m => judge m s) s).ilk.entries[n] =
      if n ∈ l then entryMoved s.ilk.entries[n] src (entryDelay s n) (entryLatches s n) else s.ilk.entries[n]
  | [], s, _, _ => by simp
  | m :: l, s, hnd, hsrc => by
    obtain ⟨hm, hl⟩ := List.nodup_cons.1 hnd
    have hj := judge_judged m s
    rw [List.foldl_cons]
    by_cases hmn : m = n
    · subst hmn
      have hrest : Judged (· ≠ m) (judge m s) (l.foldl (fun s m => judge m s) (judge m s)) := by
        have : ∀ (l : List (Fin 32)) (u : State), m ∉ l → Judged (· ≠ m) u (l.foldl (fun s m => judge m s) u) := by
          intro l
          induction l with
          | nil => exact fun u _ => .refl _ u
          | cons k l ih =>
            intro u hk
            rw [List.mem_cons, not_or] at hk
            exact ((judge_judged k u).mono fun _ h => by rw [h]; exact Ne.symm hk.1).trans (ih _ hk.2)
        exact this l _ hm
      rw [hrest.entries m (by simp), judge_entry, hsrc s (.refl _ s), if_pos List.mem_cons_self]
    · have hj' : Judged (· ≠ n) s (judge m s) := hj.mono fun _ h => by rw [h]; exact hmn
      rw [foldl_judge_entry n src l _ hl fun u hu => hsrc u (hj'.trans hu), hj.entries n (Ne.symm hmn),
        entryDelay_of_store hj.reacted.store, entryLatches_of_store hj.reacted.store]
      simp [Ne.symm hmn]

theorem allEntries_nodup : allEntries.Nodup := by decide

theorem mem_allEntries (n : Fin 32) : n ∈ allEntries := by
  revert n
  decide

/-- A change of mode judges every entry once, in the new mode (R25). -/
theorem setMode_entry (m : Mode) (s : State) (n : Fin 32) (src : Bool)
    (h : ∀ u, Judged (· ≠ n) (modeBegun m s) u → effective u n = src) :
    (setMode m s).ilk.entries[n] =
      entryMoved s.ilk.entries[n] src (entryDelay s n) (entryLatches s n) := by
  have hs : (modeBegun m s).store = s.store := (modeBegun_interlocked (N := fun _ => True) m s).reacted.store
  have he : (setMode m s).ilk.entries[n] = (judgeAll (modeBegun m s)).ilk.entries[n] := by
    rw [setMode_eq, setMode_tail_ilk]
  rw [he, judgeAll, foldl_judge_entry n src _ _ allEntries_nodup h, if_pos (mem_allEntries n),
    entryDelay_of_store hs, entryLatches_of_store hs]
  rw [modeBegun_ilk]

/-! ## The judgments of the mode -/

/-- The mode becomes `m` where it is not that already. -/
def moveMode (m : Mode) (s : State) : State := if m = s.ilk.mode then s else setMode m s

/-- The mode that a change of the PTO state gives (R26, R27, R28). -/
def ptoMode (s : State) : Mode :=
  if s.pto.state = .engaged then .pump
  else if s.ilk.mode = .road ∨ s.ilk.mode = .parked then modeJudged s
  else if s.pto.state = .disengaged ∨ s.pto.state = .fault then (if s.disc[0].active then .parked else .road)
  else s.ilk.mode

theorem modeJudge_eq (s : State) : modeJudge s = moveMode (modeJudged s) s := by
  unfold modeJudge moveMode modeJudged parkBrake
  dsimp only
  cases hm : s.ilk.mode <;> cases s.disc[0].active <;> cases s.road.standstill <;> cases s.pto.state <;> simp

theorem modeOnPto_eq (s : State) : modeOnPto s = moveMode (ptoMode s) s := by
  have hb : ∀ m : Mode, m ≠ .parked → m ≠ .road → (if s.disc[0].active then Mode.parked else .road) ≠ m := by
    intro m h1 h2
    cases s.disc[0].active
    · exact Ne.symm h2
    · exact Ne.symm h1
  unfold modeOnPto ptoMode
  cases hp : s.pto.state <;> cases hm : s.ilk.mode <;> simp [modeJudge_eq, moveMode, parkBrake, hm, hb]
  all_goals rfl

/-! ## What moving the mode leaves -/

theorem moveMode_interlocked (m : Mode) (s : State) : Interlocked (fun _ => True) s (moveMode m s) := by
  unfold moveMode
  split
  · exact (Judged.refl _ s).toInterlocked
  · exact setMode_interlocked m s

theorem moveMode_mode (m : Mode) (s : State) : (moveMode m s).ilk.mode = m := by
  unfold moveMode
  split
  · exact (Eq.symm ‹_›)
  · exact setMode_mode m s

/-- The mode has moved, with its report and the creep counter, where it has moved at all. -/
theorem moveMode_moved (m : Mode) (s : State) : ModeMoved s m (moveMode m s) := by
  refine ⟨moveMode_mode m s, fun hm => ?_⟩
  unfold moveMode
  rw [if_neg hm]
  refine ⟨setMode_reported m s, fun hp => ?_⟩
  rw [setMode_road, if_pos hp]

theorem moveMode_entry (m : Mode) (s : State) (n : Fin 32) (src : Bool) (hm : m ≠ s.ilk.mode)
    (h : ∀ u, Judged (· ≠ n) (modeBegun m s) u → effective u n = src) :
    (moveMode m s).ilk.entries[n] = entryMoved s.ilk.entries[n] src (entryDelay s n) (entryLatches s n) := by
  unfold moveMode
  rw [if_neg hm]
  exact setMode_entry m s n src h

/-- A judgment in one mode keeps a mode that has moved. -/
theorem ModeMoved.judged {N : Fin 32 → Prop} {s t u : State} {m : Mode} (h : ModeMoved s m t) (hj : Judged N t u) :
    ModeMoved s m u := by
  refine ⟨hj.mode.trans h.1, fun hm => ⟨hj.told _ _ (by simp) (h.2 hm).1, fun hp => ?_⟩⟩
  rw [hj.road]
  exact (h.2 hm).2 hp

end Sys2Proof.Machine
end

section
/-! PROOF. A publication of the PTO state (R55), reader by reader. -/

namespace Sys2Proof.Machine

/-! ## The readers after the interlock unit -/

/-- `t` is `s` after readers of the PTO state that leave the interlock unit, the PTO context, the hold and every line
but O6, O8 and O9. -/
structure Downstream (s t : State) : Prop where
  reacted : Reacted s t
  pto : t.pto = s.pto
  ilk : t.ilk = s.ilk
  road : t.road = s.road
  hold : t.out.hold = s.out.hold
  lines : ∀ m : Fin 10, m ≠ primerLine → m ≠ foamEn → m ≠ pumpReady → t.out.lines[m] = s.out.lines[m]
  reports : KeepsReports (fun k => k = .governor ∨ k = .primer ∨ k = .authority) s t

theorem Downstream.trans {s t u : State} (h : Downstream s t) (k : Downstream t u) : Downstream s u where
  reacted := h.reacted.trans k.reacted
  pto := k.pto.trans h.pto
  ilk := k.ilk.trans h.ilk
  road := k.road.trans h.road
  hold := k.hold.trans h.hold
  lines := fun m h1 h2 h3 => (k.lines m h1 h2 h3).trans (h.lines m h1 h2 h3)
  reports := h.reports.trans k.reports

theorem Downstream.of_lineOnly {n : Fin 10} {s t : State} (h : LineOnly n s t)
    (hn : n = primerLine ∨ n = foamEn ∨ n = pumpReady) : Downstream s t where
  reacted := .of_lineOnly h
  pto := h.pto
  ilk := h.ilk
  road := h.road
  hold := h.hold
  lines := fun m h1 h2 h3 => h.other (by rintro rfl; obtain rfl | rfl | rfl := hn <;> contradiction)
  reports := .of_links h.links

/-- A report of a reader's own state. -/
theorem raise_downstream {k : ReportKey} (hk : k = .governor ∨ k = .primer ∨ k = .authority) (s : State) :
    Downstream s (raise k s) :=
  ⟨raise_reacted k s, rfl, rfl, rfl, rfl, fun _ _ _ _ => rfl,
    (raise_keepsReports k s).mono fun _ h => by rw [h]; exact hk⟩

theorem modGov_downstream (f : Governor → Governor) (s : State) : Downstream s (s.modGov f) :=
  ⟨.modGov f s, rfl, rfl, rfl, rfl, fun _ _ _ _ => rfl, .of_links rfl⟩

theorem Downstream.refl (s : State) : Downstream s s :=
  ⟨.refl s, rfl, rfl, rfl, rfl, fun _ _ _ _ => rfl, .of_links rfl⟩

theorem transfer_downstream (s : State) : Downstream s (transfer s) := by
  unfold transfer
  dsimp only
  split
  · exact (modGov_downstream _ s).trans (raise_downstream (.inl rfl) _)
  · exact modGov_downstream _ s

theorem governorOnPto_downstream (prev : PtoState) (s : State) : Downstream s (governorOnPto prev s) := by
  have hd : Downstream s (departOff s) := (transfer_downstream s).trans ((modGov_downstream _ _).trans
    ((modGov_downstream _ _).trans (raise_downstream (.inl rfl) _)))
  have hg : ∀ f, Downstream s (raise .governor (s.modGov f)) := fun f =>
    (modGov_downstream f s).trans (raise_downstream (.inl rfl) _)
  unfold governorOnPto
  split
  · split
    · exact hd
    · exact .refl s
  · split
    · exact hd
    · split
      · exact hg _
      · exact .refl s
  · split
    · exact .refl s
    · exact hg _
  · split
    · exact .refl s
    · exact hg _
  · exact .refl s
  · exact .refl s

/-- The governor's state after a publication of the PTO state (R75, R76). -/
def governorAfter (prev : PtoState) (s : State) : GovState :=
  match s.pto.state with
  | .engaged => if s.gov.state = .off then .idle else s.gov.state
  | .releasing => if s.gov.state = .off ∨ prev ≠ .releasing then .idle else s.gov.state
  | .disengaged => .off
  | .fault => .off
  | .qualify => s.gov.state
  | .engaging => s.gov.state

theorem transfer_work (s : State) : (transfer s).gov.work = s.shadow := by
  unfold transfer
  dsimp only
  split <;> rfl

/-- The governor that leaves OFF does so in IDLE, with D at Nidle of the newest settings (R75). -/
theorem departOff_gov (s : State) : (departOff s).gov.state = .idle ∧
    (departOff s).gov.demand = some s.shadow.nidle ∧ (departOff s).gov.work = s.shadow := by
  have hw := transfer_work s
  refine ⟨rfl, ?_, hw⟩
  rw [← hw]
  rfl

theorem governorOnPto_state (prev : PtoState) (s : State) :
    (governorOnPto prev s).gov.state = governorAfter prev s := by
  unfold governorOnPto governorAfter
  cases s.pto.state with
  | disengaged => by_cases ho : s.gov.state = .off <;> simp [ho, enterOff]
  | qualify => rfl
  | engaging => rfl
  | engaged =>
    by_cases ho : s.gov.state = .off
    · simp only [ho, if_true]
      rfl
    · simp only [if_neg ho]
  | releasing =>
    by_cases ho : s.gov.state = .off
    · simp only [ho, if_true, true_or]
      rfl
    · by_cases hr : prev = .releasing
      · simp [ho, hr]
      · by_cases hi : s.gov.state = .idle
        · simp [hr, hi]
        · simp [ho, hr, hi]
  | fault => by_cases ho : s.gov.state = .off <;> simp [ho, enterOff]

/-- An arrival at ENGAGED takes the governor out of OFF with D at Nidle (R61, R75). -/
theorem governorOnPto_arrival {prev : PtoState} {s : State} (hp : s.pto.state = .engaged) (ho : s.gov.state = .off) :
    (governorOnPto prev s).gov.demand = some s.shadow.nidle ∧ (governorOnPto prev s).gov.work = s.shadow := by
  have : governorOnPto prev s = departOff s := by simp [governorOnPto, hp, ho]
  rw [this]
  exact (departOff_gov s).2

theorem primerEnd_downstream (o : PrimerOutcome) (s : State) : Downstream s (primerEnd o s) := by
  unfold primerEnd
  split
  · have h1 : Downstream s (s.modTank fun m => { m with
        priming := false, outcome := o, runTimer := none, primeTimer := none }) :=
      ⟨.refl s, rfl, rfl, rfl, rfl, fun _ _ _ _ => rfl, .of_links rfl⟩
    exact h1.trans ((Downstream.of_lineOnly (command_lineOnly primerLine false _) (.inl rfl)).trans
      (raise_downstream (.inr (.inl rfl)) _))
  · exact .refl s

theorem primerEnd_gov (o : PrimerOutcome) (s : State) : (primerEnd o s).gov = s.gov := by
  unfold primerEnd
  split
  · exact (command_lineOnly primerLine false _).gov
  · rfl

theorem reconJudge_downstream (arrival : Bool) (s : State) : Downstream s (reconJudge arrival s) := by
  unfold reconJudge
  split
  · exact ⟨.refl s, rfl, rfl, rfl, rfl, fun _ _ _ _ => rfl, .of_links rfl⟩
  · exact ⟨.refl s, rfl, rfl, rfl, rfl, fun _ _ _ _ => rfl, .of_links rfl⟩
  · exact .refl s

theorem reconJudge_gov (arrival : Bool) (s : State) : (reconJudge arrival s).gov = s.gov := by
  unfold reconJudge
  split <;> rfl

theorem tankOnPto_downstream (prev : PtoState) (s : State) : Downstream s (tankOnPto prev s) := by
  unfold tankOnPto
  dsimp only
  refine Downstream.trans ?_ (reconJudge_downstream _ _)
  split
  · exact .refl s
  · exact (Downstream.of_lineOnly (command_lineOnly foamEn false s) (.inr (.inl rfl))).trans
      (primerEnd_downstream _ _)

theorem tankOnPto_gov (prev : PtoState) (s : State) : (tankOnPto prev s).gov = s.gov := by
  unfold tankOnPto
  dsimp only
  rw [reconJudge_gov]
  split
  · rfl
  · rw [primerEnd_gov, (command_lineOnly foamEn false s).gov]

theorem pulseOnPto_downstream (prev : PtoState) (s : State) : Downstream s (pulseOnPto prev s) := by
  unfold pulseOnPto
  split
  · exact ⟨.refl s, rfl, rfl, rfl, rfl, fun _ _ _ _ => rfl, .of_links rfl⟩
  · exact .refl s

theorem arbiterOnPto_downstream (s : State) : Downstream s (arbiterOnPto s) := by
  unfold arbiterOnPto
  split
  · have h1 : Downstream s (withdrawClaim s) := ⟨.refl s, rfl, rfl, rfl, rfl, fun _ _ _ _ => rfl, .of_links rfl⟩
    exact h1.trans (raise_downstream (.inr (.inr rfl)) _)
  · exact .refl s

theorem pulseOnPto_gov (prev : PtoState) (s : State) : (pulseOnPto prev s).gov = s.gov := by
  unfold pulseOnPto
  split <;> rfl

theorem arbiterOnPto_gov (s : State) : (arbiterOnPto s).gov = s.gov := by
  unfold arbiterOnPto
  split <;> rfl

theorem arbiterOnPto_pulse (s : State) : (arbiterOnPto s).pulse = s.pulse := by
  unfold arbiterOnPto
  split <;> rfl

theorem pumpReadyJudge_downstream (s : State) : Downstream s (pumpReadyJudge s) :=
  .of_lineOnly (pumpReadyJudge_lineOnly s) (.inr (.inr rfl))

/-! ## The publication -/

/-- The interlock unit's answer: the mode, then entries 1, 2 and 3. -/
theorem interlockOnPto_eq (prev : PtoState) (s : State) : interlockOnPto prev s =
    judge 3 (judge 2 (judge 1 (if s.pto.state = prev then s else moveMode (ptoMode s) s))) := by
  unfold interlockOnPto
  dsimp only
  rw [modeOnPto_eq]

theorem judgePto_judged (s : State) : Judged (fun _ => True) s (judge 3 (judge 2 (judge 1 s))) :=
  ((judge_judged 1 s).mono fun _ _ => trivial).trans (((judge_judged 2 _).mono fun _ _ => trivial).trans
    ((judge_judged 3 _).mono fun _ _ => trivial))

/-- The mode after a publication of the PTO state (R26, R27, R28). -/
def modeAfter (prev : PtoState) (s : State) : Mode := if s.pto.state = prev then s.ilk.mode else ptoMode s

theorem interlockOnPto_interlocked (prev : PtoState) (s : State) :
    Interlocked (fun _ => True) s (interlockOnPto prev s) := by
  rw [interlockOnPto_eq]
  refine Interlocked.trans ?_ (judgePto_judged _).toInterlocked
  split
  · exact (Judged.refl _ s).toInterlocked
  · exact moveMode_interlocked _ s

theorem interlockOnPto_moved (prev : PtoState) (s : State) :
    ModeMoved s (modeAfter prev s) (interlockOnPto prev s) := by
  rw [interlockOnPto_eq, modeAfter]
  refine ModeMoved.judged ?_ (judgePto_judged _)
  split
  · exact ⟨rfl, fun h => absurd rfl h⟩
  · exact moveMode_moved _ s

/-- `t` is `s` after the PTO controller has published its state, which was `prev` before. -/
structure Published (prev : PtoState) (s t : State) : Prop where
  reacted : Reacted s t
  pto : t.pto = s.pto
  hold : t.out.hold = s.out.hold
  lines : ∀ m : Fin 10, m = ptoSol ∨ m = tankValveLine ∨ m = fillValve ∨ m = relief →
    t.out.lines[m] = s.out.lines[m]
  notices : ∃ new, t.ilk.notices = s.ilk.notices ++ new ∧ ∀ x ∈ new, Joined (fun _ => True) s x
  stop : NoStop s → NoStop t
  told : Reported .pto (ptoRecord s.pto) t
  moved : ModeMoved s (modeAfter prev s) t
  gov : t.gov.state = governorAfter prev s
  arrival : s.pto.state = .engaged → s.gov.state = .off →
    t.gov.demand = some s.shadow.nidle ∧ t.gov.work = s.shadow
  count : s.pto.state = .engaged → prev ≠ .engaged → t.pulse.flowCount = 0

theorem governorAfter_of_eq {prev : PtoState} {s t : State} (hp : t.pto = s.pto) (hg : t.gov.state = s.gov.state) :
    governorAfter prev t = governorAfter prev s := by
  unfold governorAfter
  rw [hp, hg]

/-- What a publication of the PTO state makes of the part (R55). -/
theorem ptoPublish_published (prev : PtoState) (s : State) : Published prev s (ptoPublish prev s) := by
  let s0 := raise .pto s
  let s1 := interlockOnPto prev s0
  let s2 := governorOnPto prev s1
  have h1 : Interlocked (fun _ => True) s0 s1 := interlockOnPto_interlocked prev s0
  have hm : ModeMoved s0 (modeAfter prev s0) s1 := interlockOnPto_moved prev s0
  have h2 : Downstream s1 s2 := governorOnPto_downstream prev s1
  have h3 : Downstream s2 (ptoPublish prev s) :=
    (pumpReadyJudge_downstream s2).trans ((tankOnPto_downstream prev _).trans
      ((pulseOnPto_downstream prev _).trans (arbiterOnPto_downstream _)))
  have hd : Downstream s1 (ptoPublish prev s) := h2.trans h3
  have hpub : ptoPublish prev s = arbiterOnPto (pulseOnPto prev (tankOnPto prev (pumpReadyJudge s2))) := rfl
  have hg : (ptoPublish prev s).gov = s2.gov := by
    rw [hpub, arbiterOnPto_gov, pulseOnPto_gov, tankOnPto_gov, (pumpReadyJudge_lineOnly s2).gov]
  have hr : Reacted s (ptoPublish prev s) := ptoPublish_reacted prev s
  refine
    { reacted := hr
      pto := hd.pto.trans h1.pto
      hold := hd.hold.trans h1.bounds.hold
      lines := fun m hm => ?_
      notices := by rw [hd.ilk]; exact h1.notices
      stop := fun h => (h1.stop h).of_eq hd.reacted.disc (by rw [hd.ilk])
      told := ?_
      moved := ⟨by rw [hd.ilk]; exact hm.1, fun hne => ⟨hd.reports _ _ (by simp) (hm.2 hne).1, fun hp => ?_⟩⟩
      gov := ?_
      arrival := fun hp ho => ?_
      count := fun hp hne => ?_ }
  · have hne : m ≠ primerLine ∧ m ≠ foamEn ∧ m ≠ pumpReady ∧ m ≠ driveEn ∧ m ≠ thrLimit ∧ m ≠ alarmLine := by
      obtain rfl | rfl | rfl | rfl := hm <;> decide
    obtain ⟨n1, n2, n3, n4, n5, n6⟩ := hne
    exact (hd.lines m n1 n2 n3).trans (h1.lines m n4 n5 n6 n3)
  · refine hd.reports _ _ (by simp) (h1.reports _ _ (by simp) ?_)
    exact raise_reported .pto s
  · rw [hd.road]
    exact (hm.2 hne).2 hp
  · rw [hg, governorOnPto_state]
    exact governorAfter_of_eq h1.pto h1.bounds.state
  · have hsh : s1.shadow = s.shadow := ((raise_reacted .pto s).trans h1.reacted).shadow
    have hp1 : s1.pto.state = .engaged := by rw [h1.pto]; exact hp
    have ho1 : s1.gov.state = .off := by rw [h1.bounds.state]; exact ho
    have ha := governorOnPto_arrival (prev := prev) hp1 ho1
    rw [hg, ← hsh]
    exact ha
  · rw [hpub, arbiterOnPto_pulse, pulseOnPto, if_pos]
    · rfl
    · have hp' : (tankOnPto prev (pumpReadyJudge s2)).pto = s.pto :=
        (((pumpReadyJudge_downstream s2).trans (tankOnPto_downstream prev _)).pto.trans h2.pto).trans h1.pto
      exact ⟨by rw [hp']; exact hp, hne⟩

end Sys2Proof.Machine
end

section
/-! PROOF. The entries into the PTO states (R58 to R67), and the end of a command in which one has come about. -/

namespace Sys2Proof.Machine

/-! ## What the settings law gives the PTO's readers -/

/-- Nidle lies within the roll cap, and that within Nmax (R73, R167). -/
theorem SettingsLaw.governorBounds {s : State} (h : SettingsLaw s) :
    s.shadow.nidle ≤ s.shadow.rollCap ∧ s.shadow.rollCap ≤ s.shadow.nmax := by
  have hk : relationKept (fun i => itemValue i (tableValue s.store.live i)) 90 = true := by
    obtain h | ⟨-, -, h⟩ := h
    · rw [h]
      decide
    · exact List.all_eq_true.1 h 90 (by decide)
  have hle : s.cfg 90 ≤ s.cfg 92 ∧ s.cfg 92 ≤ s.cfg 91 := by simpa [relationKept, State.cfg] using hk
  exact hle

/-- The action set of a configurable entry lies in its mask (R36). -/
theorem SettingsLaw.actionMask {s : State} (h : SettingsLaw s) {n : Fin 32} (hn : 16 ≤ n.val) :
    s.cfgN (entryItem n 2) &&& 59 = s.cfgN (entryItem n 2) := by
  have hlt := n.isLt
  have hr : itemSpec (entryItem n 2) = some ⟨.bits 59, 32, true⟩ := by
    have : (256 + 5 * (n.val - 16) + 2 - 256) % 5 = 2 := by omega
    unfold itemSpec entryItem
    simp only [show ¬ 256 + 5 * (n.val - 16) + 2 < 20 by omega, show ¬ 256 + 5 * (n.val - 16) + 2 < 32 by omega,
      show ¬ 256 + 5 * (n.val - 16) + 2 < 40 by omega, show ¬ 256 + 5 * (n.val - 16) + 2 < 52 by omega,
      show ¬ 256 + 5 * (n.val - 16) + 2 < 60 by omega, show ¬ 256 + 5 * (n.val - 16) + 2 < 70 by omega,
      show ¬ 256 + 5 * (n.val - 16) + 2 < 90 by omega, show ¬ 256 + 5 * (n.val - 16) + 2 < 110 by omega,
      show ¬ 256 + 5 * (n.val - 16) + 2 < 140 by omega, show ¬ 256 + 5 * (n.val - 16) + 2 < 170 by omega,
      show ¬ 256 + 5 * (n.val - 16) + 2 < 200 by omega, show ¬ 256 + 5 * (n.val - 16) + 2 < 210 by omega,
      show ¬ 256 + 5 * (n.val - 16) + 2 < 220 by omega, show ¬ 256 + 5 * (n.val - 16) + 2 < 230 by omega,
      show ¬ 256 + 5 * (n.val - 16) + 2 < 240 by omega, show ¬ 256 + 5 * (n.val - 16) + 2 = 240 by omega,
      show ¬ 256 + 5 * (n.val - 16) + 2 < 256 by omega, show 256 + 5 * (n.val - 16) + 2 < 336 by omega,
      if_false, if_true, this]
    rfl
  have h98 : entryItem n 2 ≠ 98 := by unfold entryItem; omega
  by_cases hl : s.store.live = []
  · have : s.cfgN (entryItem n 2) = 32 := by
      simp [State.cfgN, tableValue, hl, itemDefault, hr]
    rw [this]
    decide
  · have hc := h.contains hl hr
    simp only [Domain.contains, Bool.and_eq_true, beq_iff_eq] at hc
    simpa [s.cfg_eq_cfgN h98] using hc.2

/-- The actions of a configurable entry are its setting's (R36). -/
theorem entryActions_configurable (s : State) {n : Fin 32} (hn : 16 ≤ n.val) :
    entryActions s n = actionSetOf (s.cfgN (entryItem n 2)) := by
  obtain ⟨k, hk⟩ := n
  obtain ⟨j, rfl⟩ : ∃ j, k = j + 16 := ⟨k - 16, by simp at hn; omega⟩
  show (if j + 16 < 16 then (⟨false, false, false, false, false, true⟩ : ActionSet)
    else actionSetOf (s.cfgN (entryItem ⟨j + 16, hk⟩ 2))) = _
  exact if_neg (Nat.not_lt.2 (Nat.le_add_left 16 j))

/-- Of the fixed entries 0 and 5 alone release the PTO (R34). -/
theorem releasePto_fixed (s : State) {n : Fin 32} (hn : n.val < 16) :
    (entryActions s n).releasePto = (n.val == 0 || n.val == 5) := by
  obtain ⟨k, hk⟩ := n
  have hk16 : k < 16 := hn
  interval_cases k <;> rfl

/-- No entry that a judgment makes join releases the PTO but entry 0: entry 5 has a delay, and no configurable entry
may carry RELEASE_PTO (R34, R36). -/
theorem SettingsLaw.not_releasePto {s : State} (h : SettingsLaw s) {n : Fin 32} (h0 : n ≠ 0)
    (hd : entryDelay s n = 0) : (entryActions s n).releasePto = false := by
  by_cases hn : 16 ≤ n.val
  · rw [entryActions_configurable s hn, ← h.actionMask hn]
    simp [actionSetOf, Nat.testBit_and, show Nat.testBit 59 2 = false by decide]
  · rw [releasePto_fixed s (by omega)]
    have h5 : n.val ≠ 5 := by
      intro h5
      obtain rfl : n = 5 := Fin.ext h5
      cases hd
    have : n.val ≠ 0 := fun e => h0 (Fin.ext e)
    simp [h5, this]

/-! ## The entries -/

/-- `t` is `s` with the PTO context at `after` and PTO_SOL perhaps commanded, before its state is published. -/
structure Poised (s : State) (after : Pto) (t : State) : Prop where
  reacted : Reacted s t
  pto : t.pto = after
  ilk : t.ilk = s.ilk
  gov : t.gov = s.gov
  hold : t.out.hold = s.out.hold
  lines : ∀ m : Fin 10, m ≠ ptoSol → t.out.lines[m] = s.out.lines[m]
  sol : SolenoidLaw s → SolenoidLaw t

/-- The context moves, and PTO_SOL takes the command that R56 has for it. -/
theorem Poised.of_command (f : Pto → Pto) {on : Bool} (s : State) (hon : solenoidWanted (s.modPto f) = on) :
    Poised s (f s.pto) (command ptoSol on (s.modPto f)) := by
  have h := command_lineOnly ptoSol on (s.modPto f)
  refine ⟨(Reacted.modPto f s).trans (.of_lineOnly h), h.pto, h.ilk, h.gov, h.hold, fun m hm => h.other hm, fun _ => ?_⟩
  rw [SolenoidLaw, command_commanded, solenoidWanted, h.pto]
  exact hon.symm

/-- The context moves to one of the same command of PTO_SOL. -/
theorem Poised.of_modPto (f : Pto → Pto) (s : State) (hsol : solenoidWanted (s.modPto f) = solenoidWanted s) :
    Poised s (f s.pto) (s.modPto f) :=
  ⟨.modPto f s, rfl, rfl, rfl, rfl, fun _ _ => rfl, fun h => h.trans hsol.symm⟩

/-- `t` is `s` after the PTO controller has entered the context `after` and the readers of its state have answered:
what they leave, what they give, and where the governor and the mode stand. -/
structure Entered (s : State) (after : Pto) (t : State) : Prop where
  reacted : Reacted s t
  pto : t.pto = after
  hold : t.out.hold = s.out.hold
  lines : ∀ m : Fin 10, m = tankValveLine ∨ m = fillValve ∨ m = relief → t.out.lines[m] = s.out.lines[m]
  notices : ∃ new, t.ilk.notices = s.ilk.notices ++ new ∧ ∀ x ∈ new, Joined (fun _ => True) s x
  stop : NoStop s → NoStop t
  sol : SolenoidLaw s → SolenoidLaw t
  told : Reported .pto (ptoRecord after) t
  gov : GovernorStateLaw s → t.gov.state =
    if after.state = s.pto.state then s.gov.state
    else if after.state = .engaged ∨ after.state = .releasing then .idle else .off
  mode : s.ilk.mode ≠ .road → t.ilk.mode =
    if after.state = s.pto.state ∨ after.state = .releasing then s.ilk.mode
    else if after.state = .engaged then .pump
    else if s.disc[0].active then .parked else .road
  arrival : GovernorStateLaw s → s.ilk.mode ≠ .pump → after.state = .engaged →
    t.road.creep = 0 ∧ t.pulse.flowCount = 0 ∧ t.gov.demand = some s.shadow.nidle ∧ t.gov.work = s.shadow ∧
      Reported .mode ⟨2, 0, 0⟩ t

theorem Joined.of_eq {N : Fin 32 → Prop} {s t : State} (h : Reacted s t) (hi : t.ilk = s.ilk) {x : Notice}
    (hx : Joined N t x) : Joined N s x :=
  hx.of_reacted h fun h0 => h0.of_eq h.disc (by rw [hi])

/-- A publication from a poised context is an entry, in DISENGAGED, ENGAGED and RELEASING. -/
theorem Poised.entered {s t u : State} {after : Pto} (h : Poised s after t) (hp : Published s.pto.state t u)
    (ha : after.state = .disengaged ∨ after.state = .releasing ∨ after.state = .engaged ∧ s.pto.state = .engaging) :
    Entered s after u := by
  have hmode : s.ilk.mode ≠ .road → modeAfter s.pto.state t =
      if after.state = s.pto.state ∨ after.state = .releasing then s.ilk.mode
      else if after.state = .engaged then .pump
      else if s.disc[0].active then .parked else .road := by
    intro hr
    unfold modeAfter ptoMode modeJudged
    rw [h.pto, h.ilk, h.reacted.disc]
    obtain ha | ha | ⟨ha, he⟩ := ha
    · by_cases hs : s.pto.state = .disengaged
      · simp [ha, hs]
      · cases hm : s.ilk.mode <;> simp_all; cases s.disc[0].active <;> simp [Ne.symm hs]
    · cases hm : s.ilk.mode <;> simp_all
    · simp [ha, he]
  refine
    { reacted := h.reacted.trans hp.reacted
      pto := hp.pto.trans h.pto
      hold := hp.hold.trans h.hold
      lines := fun m hm => ?_
      notices := ?_
      stop := fun hs => hp.stop (hs.of_eq h.reacted.disc (by rw [h.ilk]))
      sol := fun hs => by
        rw [SolenoidLaw, hp.lines ptoSol (.inl rfl), solenoidWanted, hp.pto]
        exact h.sol hs
      told := by rw [← h.pto]; exact hp.told
      gov := fun hg => ?_
      mode := fun hr => hp.moved.1.trans (hmode hr)
      arrival := fun hg hm he => ?_ }
  · exact (hp.lines m (.inr hm)).trans (h.lines m (by obtain rfl | rfl | rfl := hm <;> decide))
  · obtain ⟨new, e, j⟩ := hp.notices
    exact ⟨new, by rw [e, h.ilk], fun x hx => (j x hx).of_eq h.reacted h.ilk⟩
  · rw [hp.gov, governorAfter, h.pto, h.gov]
    rw [GovernorStateLaw] at hg
    obtain ha | ha | ⟨ha, he⟩ := ha
    · by_cases hs : s.pto.state = .disengaged
      · simp_all
      · simp [ha, Ne.symm hs]
    · by_cases hs : s.pto.state = .releasing
      · simp_all
      · simp [ha, hs, Ne.symm hs]
    · simp_all
  · have hs : s.pto.state = .engaging := by
      obtain ha | ha | ⟨-, hs⟩ := ha
      · cases he.symm.trans ha
      · cases he.symm.trans ha
      · exact hs
    have ho : s.gov.state = .off := by
      by_contra hne
      obtain h' | h' := hg.1 hne <;> rw [hs] at h' <;> cases h'
    have hpe : t.pto.state = .engaged := by rw [h.pto]; exact he
    have hm2 : modeAfter s.pto.state t = .pump := by simp [modeAfter, ptoMode, hpe, hs]
    have hmv := hp.moved
    rw [hm2] at hmv
    obtain ⟨hrep, hcreep⟩ := hmv.2 (by rw [h.ilk]; exact Ne.symm hm)
    have harr := hp.arrival hpe (by rw [h.gov]; exact ho)
    rw [h.reacted.shadow] at harr
    exact ⟨hcreep rfl, hp.count hpe (by rw [hs]; decide), harr.1, harr.2, hrep⟩

/-- DISENGAGED is entered (R53). -/
theorem enterDisengaged_entered (cause : Option AbandonCause) (s : State) :
    Entered s (ptoDisengaged cause) (enterDisengaged cause s) :=
  (Poised.of_command (fun p => { p.noTimers with
    state := .disengaged, stage := none, reason := none, abandon := cause, slip := false }) s rfl).entered
    (ptoPublish_published _ _) (.inl rfl)

/-- ENGAGED is entered from ENGAGING (R61). -/
theorem enterEngaged_entered {s : State} (h : s.pto.state = .engaging) : Entered s ptoEngaged (enterEngaged s) := by
  refine (Poised.of_modPto (fun p => { p.noTimers with
    state := .engaged, stage := none, reason := none, abandon := none, slip := false }) s ?_).entered
    (ptoPublish_published _ _) (.inr (.inr ⟨rfl, h⟩))
  simp [solenoidWanted, h]

/-- Two entries of one command, the first in RELEASING (R67). -/
theorem Entered.trans {s t u : State} {first after : Pto} (h : Entered s first t) (k : Entered t after u)
    (hf : first.state = .releasing) (ha : after.state = .disengaged) (hs : s.pto.state ≠ .disengaged) :
    Entered s after u where
  reacted := h.reacted.trans k.reacted
  pto := k.pto
  hold := k.hold.trans h.hold
  lines := fun m hm => (k.lines m hm).trans (h.lines m hm)
  notices := by
    obtain ⟨new1, e1, j1⟩ := h.notices
    obtain ⟨new2, e2, j2⟩ := k.notices
    refine ⟨new1 ++ new2, by rw [e2, e1, List.append_assoc], fun x hx => ?_⟩
    obtain hx | hx := List.mem_append.1 hx
    · exact j1 x hx
    · exact (j2 x hx).of_reacted h.reacted h.stop
  stop := fun h0 => k.stop (h.stop h0)
  sol := fun h0 => k.sol (h.sol h0)
  told := k.told
  gov := fun hg => by
    have ht : t.gov.state ≠ .off := by
      rw [h.gov hg, hf]
      split
      · exact hg.2 (.inr (Eq.symm ‹_›))
      · simp
    have hp : t.pto.state = .releasing := by rw [h.pto, hf]
    rw [k.gov ⟨fun _ => .inr hp, fun _ => ht⟩, hp, ha]
    simp [Ne.symm hs]
  mode := fun hr => by
    have hm : t.ilk.mode = s.ilk.mode := by rw [h.mode hr, if_pos (.inr hf)]
    have hp : t.pto.state = .releasing := by rw [h.pto, hf]
    rw [k.mode (by rwa [hm]), hp, ha, h.reacted.disc]
    simp [Ne.symm hs]
  arrival := fun _ _ he => by cases ha.symm.trans he

/-- DROP is entered, and left at once with PTO_CONFIRM inactive (R67). -/
theorem enterDrop_entered {s : State} (h : s.pto.state ≠ .disengaged) : Entered s (ptoDropped s) (enterDrop s) := by
  have hd : Entered s _ (ptoPublish s.pto.state (command ptoSol false (s.modPto fun p => { p.noTimers with
      state := .releasing, stage := some .drop, reason := none, abandon := none, slip := false
      stageTimer := some (ms (s.cfgN 79)) }))) :=
    (Poised.of_command (fun p => { p.noTimers with
      state := .releasing, stage := some .drop, reason := none, abandon := none, slip := false
      stageTimer := some (ms (s.cfgN 79)) }) s rfl).entered (ptoPublish_published _ _) (.inr (.inl rfl))
  unfold enterDrop ptoDropped
  dsimp only
  rw [hd.reacted.disc]
  split
  · exact hd
  · exact hd.trans (enterDisengaged_entered none _) rfl rfl h

end Sys2Proof.Machine
end

section
/-! PROOF. The answer to a move of the PTO context at the end of its command, and the period channels (R3 to R8). -/

namespace Sys2Proof.Machine

/-! ## The end of a command that has moved the PTO context -/

/-- After an entry no notice that it has given reaches the PTO controller, where none of them is of entry 0 and none
releases an ENGAGED PTO. -/
theorem Entered.deaf {s t : State} {after : Pto} (h : Entered s after t) (hs : NoStop s) (h0 : NoticesTaken s)
    (hq : after.state ≠ .qualify ∧ after.state ≠ .engaging) (hl : after.state = .engaged → SettingsLaw s) :
    ∀ x ∈ t.ilk.notices, Deaf t.pto x := by
  obtain ⟨new, e, j⟩ := h.notices
  intro x hx
  rw [e, h0, List.nil_append] at hx
  obtain ⟨-, ha, hd, hn⟩ := j x hx
  rw [Deaf, h.pto]
  exact ⟨hn hs, .inr ⟨hq.1, hq.2, fun he => ha ▸ (hl he).not_releasePto (hn hs) hd⟩⟩

/-- The working copy that has just been taken from the settings puts D at idle within its bounds (R73, R75). -/
theorem atIdle_of_shadow {s t : State} (hl : SettingsLaw s) (hd : t.gov.demand = some s.shadow.nidle)
    (hw : t.gov.work = s.shadow) : AtIdle t := by
  obtain ⟨h1, h2⟩ := hl.governorBounds
  rw [AtIdle, hw]
  exact ⟨hd, h1.trans h2, h1⟩

/-- An entry, with what the end of its command does, is an answer. -/
theorem Entered.answered {s t : State} {after : Pto} (h : Entered s after t) (hs : PtoSound s) (h0 : NoticesTaken s)
    (ha : after.state = .disengaged ∨ after.state = .releasing ∨ after.state = .engaged ∧ s.pto.state = .engaging) :
    PtoAnswered s after (settle t) := by
  obtain ⟨-, hqual, -, hstop, hgov, hset⟩ := hs
  have hq : after.state ≠ .qualify ∧ after.state ≠ .engaging := by
    obtain ha | ha | ⟨ha, -⟩ := ha <;> rw [ha] <;> decide
  have hi := settle_idled (h.deaf hstop.noStop h0 hq fun _ => hset)
  refine ⟨hi.pto.trans h.pto, fun _ => hi.reports _ _ (by simp) h.told, fun hsol => ?_, fun hne => ?_, fun hr => ?_,
    fun he hne => ?_⟩
  · rw [SolenoidLaw, hi.out, solenoidWanted, hi.pto]
    exact h.sol hsol
  · have hg := h.gov hgov
    rw [if_neg hne] at hg
    obtain hst | ⟨hst, hoff⟩ := hi.state
    · exact hst.trans hg
    · split at hg
      · rw [hst, if_pos ‹_›]
      · exact absurd hg hoff
  · rw [hi.ilk]
    exact h.mode hr
  · have hs : s.pto.state = .engaging := by
      obtain ha | ha | ⟨-, ha⟩ := ha
      · cases he.symm.trans ha
      · cases he.symm.trans ha
      · exact ha
    have hm : s.ilk.mode ≠ .pump := by rw [hqual (.inr hs)]; decide
    obtain ⟨hc, hf, hd, hw, hrep⟩ := h.arrival hgov hm he
    refine ⟨by rw [hi.road]; exact hc, by rw [hi.pulse]; exact hf, ?_, hi.reports _ _ (by simp) hrep⟩
    have hid := (hi.idle (atIdle_of_shadow hset hd hw)).1
    rw [hid, hi.work]
    exact congrArg (fun g : UpdateSettings => some g.nidle) hw

/-- A move of the context within its state and stage is an answer. -/
theorem ptoAnswered_of_stay {s t : State} {after : Pto} (hp : t.pto = after) (hst : after.state = s.pto.state)
    (hsg : after.stage = s.pto.stage) (hm : t.ilk.mode = s.ilk.mode)
    (hl : t.out.lines[ptoSol] = s.out.lines[ptoSol]) : PtoAnswered s after t := by
  refine ⟨hp, fun h => (h.elim (· hst) (· hsg)).elim, fun hsol => ?_, fun h => absurd hst h, fun _ => ?_,
    fun he hne => absurd (hst ▸ he) hne⟩
  · rw [SolenoidLaw, hl, solenoidWanted, hp, hst, hsg]
    exact hsol
  · rw [hm, if_pos (.inl hst)]

/-! ## The PTO controller's answers to the speeds -/

/-- The context after a judgment of the qualify conditions, as the statements have it (R58). -/
theorem judgeQualify_pto {s : State} (h : s.pto.state = .qualify) : (judgeQualify s).pto = qualifyJudged s := by
  have hf : failingCondition s = qualifyFailure s := by
    unfold failingCondition qualifyFailure
    cases s.disc[0].active <;> cases s.disc[1].active <;> cases s.road.standstill <;> simp
  rw [qualifyJudged, if_pos h, ← hf]
  simp only [judgeQualify, State.modPto_pto, Pto.qualified]
  congr 1
  cases (failingCondition s).isSome <;> cases s.pto.hold <;> simp [ms, Nat.mul_comm]

theorem qualifyJudged_state (s : State) : (qualifyJudged s).state = s.pto.state := by
  unfold qualifyJudged
  split <;> rfl

theorem qualifyJudged_stage (s : State) : (qualifyJudged s).stage = s.pto.stage := by
  unfold qualifyJudged
  split <;> rfl

/-- Confirmation is judged as the statements have it (R60). -/
theorem judgeConfirm_eq (s : State) : judgeConfirm s = if confirmationHolds s then enterEngaged s else s := by
  unfold judgeConfirm confirmationHolds confirmThreshold expectedSpeed
  cases s.disc[2].active <;> simp

/-- The slip condition's move, with its judgment of entry 3 (R63). -/
theorem slipCheck_judged (s : State) : ∃ b, Judged (· = 3) (s.modPto fun p => { p with slip := b }) (slipCheck s) ∧
    b = if 500 ≤ s.pulse.eng.rate then
      decide (s.cfgN 75 < (s.pulse.eng.rate * s.cfgN 74 / 1000 - s.pulse.pump.rate) * 1000 /
        (s.pulse.eng.rate * s.cfgN 74 / 1000))
    else s.pto.slip := by
  have hself : ∀ b, b = s.pto.slip → Judged (· = 3) (s.modPto fun p => { p with slip := b }) s := by
    rintro _ rfl
    exact .refl _ s
  refine ⟨_, ?_, rfl⟩
  unfold slipCheck expectedSpeed
  dsimp only
  by_cases h : s.pulse.eng.rate < 500
  · rw [if_pos h, if_neg (Nat.not_le.2 h)]
    exact hself _ rfl
  · rw [if_neg h, if_pos (Nat.not_lt.1 h)]
    split
    · exact hself _ ‹_›
    · exact judge_judged 3 _

/-- Entry 3 forces the governor to IDLE alone. -/
theorem Judged.slip_deaf {s t : State} (h : Judged (· = 3) s t) (h0 : NoticesTaken s) :
    ∀ x ∈ t.ilk.notices, Deaf t.pto x :=
  h.deaf h0 (by rintro _ rfl -; exact ⟨by decide, rfl, rfl⟩)

/-- The PTO controller's answer to a speed, with the end of its command (R58, R60, R61, R63, R66). -/
theorem ratePublished_answered (ch : PeriodCh) {s : State} (hs : PtoSound s) (h0 : NoticesTaken s) :
    PtoAnswered s (ptoOnSpeed ch s) (settle (ratePublished ch s)) := by
  have stay : ∀ {t : State} {after : Pto}, t.pto = after → after.state = s.pto.state → after.stage = s.pto.stage →
      t.ilk = s.ilk → t.out = s.out → PtoAnswered s after (settle t) := by
    intro t after hp h1 h2 hk ho
    rw [settle_of_no_notice t (by rw [hk]; exact h0)]
    exact ptoAnswered_of_stay hp h1 h2 (by rw [hk]) (by rw [ho])
  have same : PtoAnswered s s.pto (settle s) := stay rfl rfl rfl rfl rfl
  have confirm : s.pto.state = .engaging →
      PtoAnswered s (if confirmationHolds s then ptoEngaged else s.pto) (settle (judgeConfirm s)) := by
    intro he
    rw [judgeConfirm_eq]
    split
    · exact (enterEngaged_entered he).answered hs h0 (.inr (.inr ⟨rfl, he⟩))
    · exact same
  cases ch with
  | flow => exact same
  | eng =>
    change PtoAnswered s _ (settle (ptoOnEngine s))
    unfold ptoOnEngine
    split
    · rename_i hq
      have he : ptoOnSpeed .eng s = qualifyJudged s := by simp [ptoOnSpeed, hq]
      rw [he]
      exact stay (judgeQualify_pto hq) (qualifyJudged_state s) (qualifyJudged_stage s) rfl rfl
    · rename_i he
      have : ptoOnSpeed .eng s = if confirmationHolds s then ptoEngaged else s.pto := by simp [ptoOnSpeed, he]
      rw [this]
      exact confirm he
    · rename_i hr hsp
      by_cases hle : s.pulse.eng.rate ≤ s.cfgN 78
      · have : ptoOnSpeed .eng s = ptoDropped s := by simp [ptoOnSpeed, hr, hsp, hle]
        rw [this, if_pos hle]
        refine (enterDrop_entered (by rw [hr]; decide)).answered hs h0 ?_
        unfold ptoDropped
        split
        · exact .inr (.inl rfl)
        · exact .inl rfl
      · have : ptoOnSpeed .eng s = s.pto := by simp [ptoOnSpeed, hr, hle, qualifyJudged]
        rw [this, if_neg hle]
        exact same
    · rename_i hq he hr
      have : ptoOnSpeed .eng s = s.pto := by
        simp only [ptoOnSpeed, qualifyJudged, if_neg hq, if_neg he, reduceCtorEq, ↓reduceIte]
        rw [if_neg fun h => hr h.1 h.2.1]
      rw [this]
      exact same
  | pump =>
    change PtoAnswered s _ (settle (ptoOnPump s))
    unfold ptoOnPump
    split
    · rename_i he
      have : ptoOnSpeed .pump s = if confirmationHolds s then ptoEngaged else s.pto := by simp [ptoOnSpeed, he]
      rw [this]
      exact confirm he
    · rename_i he
      obtain ⟨b, hj, hb⟩ := slipCheck_judged s
      have : ptoOnSpeed .pump s = { s.pto with slip := b } := by
        rw [hb]
        by_cases h5 : 500 ≤ s.pulse.eng.rate
        · simp [ptoOnSpeed, he, h5]
        · have hne : s.pto.state ≠ .engaging := by rw [he]; decide
          simp [ptoOnSpeed, h5, hne]
      obtain ⟨-, hp, hm, -, -, -, ho, -⟩ := hj.settle (hj.slip_deaf h0)
      rw [this]
      refine ptoAnswered_of_stay hp rfl rfl hm ?_
      rw [ho]
      exact hj.lines ptoSol (by decide) (by decide) (by decide) (by decide)
    · rename_i he hn
      have : ptoOnSpeed .pump s = s.pto := by
        rw [ptoOnSpeed, if_neg (by decide), if_neg he, if_neg (by decide), if_neg fun h => hn h.1]
      rw [this]
      exact same

/-- In ENGAGED a pump-shaft speed moves the slip condition from 500 rpm on (R63). -/
theorem ratePublished_slip {s : State} (h0 : NoticesTaken s) (he : s.pto.state = .engaged)
    (hr : 500 ≤ s.pulse.eng.rate) : (settle (ratePublished .pump s)).pto.slip =
      decide (s.cfgN 75 < (s.pulse.eng.rate * s.cfgN 74 / 1000 - s.pulse.pump.rate) * 1000 /
        (s.pulse.eng.rate * s.cfgN 74 / 1000)) := by
  obtain ⟨b, hj, hb⟩ := slipCheck_judged s
  obtain ⟨-, hp, -⟩ := hj.settle (hj.slip_deaf h0)
  have : ratePublished .pump s = slipCheck s := by simp [ratePublished, ptoOnPump, he]
  rw [this, hp, hb, if_pos hr]
  rfl

/-! ## The channels -/

/-- The history keeps its newest stamps (R4). -/
theorem pushStamp_eq (h : List Stamp) (n : Nat) (now : Stamp) :
    pushStamp h n now = ((h ++ [now]).reverse.take (n + 1)).reverse := by
  rw [pushStamp, List.take_reverse, List.reverse_reverse]

theorem pushStamp_last (h : List Stamp) (n : Nat) (now : Stamp) : (pushStamp h n now).getLast? = some now := by
  rw [pushStamp_eq, List.getLast?_reverse, List.reverse_append]
  rfl

/-- An edge is refused where it comes less than the minimum period after the newest stamp (R3). -/
theorem edgeAccepted_iff (h : List Stamp) (m : Nat) (now : Stamp) :
    edgeAccepted h m now = true ↔ ¬ (h ≠ [] ∧ (now - h.getLastD 0).toNat < m) := by
  unfold edgeAccepted
  rcases h.eq_nil_or_concat with rfl | ⟨l, x, rfl⟩ <;> simp

/-- The rate that a history gives (R5, R6), on the span from its oldest stamp to the edge. -/
theorem rateOf_pushStamp (ch : PeriodCh) (h : List Stamp) (n k : Nat) (now : Stamp) :
    rateOf ch (pushStamp h n now) k =
      min 9999 (60000000 * ((pushStamp h n now).length - 1) * (if ch = .flow then 100 else 1) /
        ((now - (pushStamp h n now).headD 0).toNat * k)) := by
  have hspan : spanOf (pushStamp h n now) = (now - (pushStamp h n now).headD 0).toNat := by
    unfold spanOf
    rw [pushStamp_last]
    cases he : pushStamp h n now with
    | nil =>
      have := pushStamp_last h n now
      rw [he] at this
      cases this
    | cons a l => rfl
  unfold rateOf
  rw [hspan]
  cases ch <;> rfl

/-! ## A channel's update is none of what the laws and the answers read -/

theorem modPeriod_answered {ch : PeriodCh} {f : PeriodChannel → PeriodChannel} {s t : State} {after : Pto}
    (h : PtoAnswered (s.modPeriod ch f) after t) : PtoAnswered s after t := by
  cases ch <;> exact h

theorem modPeriod_sound {ch : PeriodCh} {f : PeriodChannel → PeriodChannel} {s : State} (h : PtoSound s) :
    PtoSound (s.modPeriod ch f) := by
  cases ch <;> exact h

theorem modPeriod_noticesTaken {ch : PeriodCh} {f : PeriodChannel → PeriodChannel} {s : State} (h : NoticesTaken s) :
    NoticesTaken (s.modPeriod ch f) := by
  cases ch <;> exact h

/-- A channel's update, followed by what the PTO controller makes of its rate, with the end of the command. -/
theorem modPeriod_published (ch : PeriodCh) (f : PeriodChannel → PeriodChannel) {s : State} (h0 : NoticesTaken s) :
    let u := s.modPeriod ch f
    Reacted u (settle (ratePublished ch u)) ∧
      (ch = .flow → (settle (ratePublished ch u)).pulse.flowCount = s.pulse.flowCount) ∧
      (PtoSound s → PtoAnswered s (ptoOnSpeed ch u) (settle (ratePublished ch u))) := by
  intro u
  refine ⟨(ratePublished_reacted ch u).trans (settle_reacted _), ?_, fun hs =>
    modPeriod_answered (ratePublished_answered ch (modPeriod_sound hs) (modPeriod_noticesTaken h0))⟩
  rintro rfl
  change (settle u).pulse.flowCount = _
  rw [settle_of_no_notice u h0]
  rfl

/-- An edge in service that is accepted: the channel takes it, and its rate where there is one is published. -/
theorem periodEdge_eq {ch : PeriodCh} {s : State} {h : List Stamp} {rate : Nat} (hrun : s.ctl.startup = .running)
    (ha : edgeAccepted (s.period ch).history (s.cfgN (periodBase ch)) s.pulse.timebase = true)
    (hh : h = pushStamp (s.period ch).history (s.cfgN (periodBase ch + 1)) s.pulse.timebase)
    (hrate : rate = if 2 ≤ h.length then rateOf ch h (s.cfgN (periodBase ch + 3)) else (s.period ch).rate) :
    let u := s.modPeriod ch fun _ => ⟨h, rate, some (ms (s.cfgN (periodBase ch + 2)))⟩
    periodEdge ch s = if ch = .flow then u.modPulse fun p => { p with flowCount := p.flowCount + 1 }
      else if 2 ≤ h.length then ratePublished ch u else u := by
  intro u
  unfold periodEdge
  dsimp only
  rw [← hh]
  simp only [State.inService, hrun, ha, beq_self_eq_true, Bool.not_true, Bool.or_self, Bool.false_eq_true, if_false]
  by_cases hk : 2 ≤ h.length
  · rw [if_pos hk] at hrate ⊢
    rw [if_pos hk]
    simp only [u, hrate]
    cases ch <;> rfl
  · rw [if_neg hk] at hrate ⊢
    rw [if_neg hk]
    simp only [u, hrate]
    cases ch <;> rfl

theorem periodEdge_refused {ch : PeriodCh} {s : State}
    (ha : ¬ edgeAccepted (s.period ch).history (s.cfgN (periodBase ch)) s.pulse.timebase = true) :
    periodEdge ch s = s := by
  unfold periodEdge
  simp [ha]

/-- What an accepted edge gives. -/
theorem periodEdge_published {ch : PeriodCh} {s : State} {h : List Stamp} {rate : Nat} {stale : Option Micros}
    (h0 : NoticesTaken s) :
    let u := s.modPeriod ch fun _ => ⟨h, rate, stale⟩
    let t := settle (if ch = .flow then u.modPulse fun p => { p with flowCount := p.flowCount + 1 }
      else if 2 ≤ h.length then ratePublished ch u else u)
    Reacted u t ∧
      (ch = .flow → t.pulse.flowCount = s.pulse.flowCount + 1) ∧
      (ch = .pump → 2 ≤ h.length → s.pto.state = .engaged → 500 ≤ s.pulse.eng.rate →
        let expected := s.pulse.eng.rate * s.cfgN 74 / 1000
        t.pto.slip = decide (s.cfgN 75 < (expected - rate) * 1000 / expected)) ∧
      (PtoSound s → PtoAnswered s (if 2 ≤ h.length then ptoOnSpeed ch u else s.pto) t) := by
  intro u t
  by_cases hf : ch = .flow
  · subst hf
    have ht : t = u.modPulse fun p => { p with flowCount := p.flowCount + 1 } := settle_of_no_notice _ h0
    rw [ht]
    refine ⟨Reacted.refl u, fun _ => rfl, fun hp => PeriodCh.noConfusion hp, fun _ => ?_⟩
    have : (if 2 ≤ h.length then ptoOnSpeed .flow u else s.pto) = s.pto := ite_self _
    rw [this]
    exact ptoAnswered_of_stay rfl rfl rfl rfl rfl
  · have ht : t = settle (if 2 ≤ h.length then ratePublished ch u else u) := by simp only [t, if_neg hf]
    by_cases hk : 2 ≤ h.length
    · rw [ht, if_pos hk, if_pos hk]
      obtain ⟨hr, -, hp⟩ := modPeriod_published ch (fun _ => ⟨h, rate, stale⟩) h0
      refine ⟨hr, fun h' => absurd h' hf, ?_, hp⟩
      rintro rfl - he h5
      exact ratePublished_slip (modPeriod_noticesTaken h0) he h5
    · have hu : settle u = u := settle_of_no_notice u (modPeriod_noticesTaken h0)
      rw [ht, if_neg hk, if_neg hk, hu]
      refine ⟨.refl u, fun h' => absurd h' hf, fun _ h' => absurd h' hk, fun _ => ?_⟩
      exact modPeriod_answered (f := fun _ => ⟨h, rate, stale⟩) (ptoAnswered_of_stay rfl rfl rfl rfl rfl)

/-- Settles O16: a published rate has the PTO controller's answer (`ratePublished_answered`). -/
theorem periodChannelIsJudged : Obligations.PeriodChannelIsJudged := by
  refine ⟨fun ch s hrun h0 => ?_, fun ch s h0 => ?_⟩
  · intro c now item h k span rate u
    have hh : h = pushStamp c.history (s.cfgN (item + 1)) now := (pushStamp_eq _ _ _).symm
    have hrate : rate = if 2 ≤ h.length then rateOf ch h (s.cfgN (item + 3)) else c.rate := by
      simp only [rate, span, k, hh, rateOf_pushStamp]
    split
    · rename_i hr
      change execPeriodEdge ch s = _
      rw [execPeriodEdge, periodEdge_refused fun ha => (edgeAccepted_iff _ _ _).1 ha hr, settle_of_no_notice s h0]
    · rename_i ha
      refine ⟨_, ?_, periodEdge_published h0⟩
      change execPeriodEdge ch s = _
      rw [execPeriodEdge, periodEdge_eq hrun ((edgeAccepted_iff _ _ _).2 ha) hh hrate]
  · intro u
    split
    · rename_i hn
      change execStaleTimerExpiry ch s = _
      simp [execStaleTimerExpiry, hn]
    · rename_i hn
      refine ⟨settle (ratePublished ch u), ?_, modPeriod_published ch _ h0⟩
      change execStaleTimerExpiry ch s = _
      rw [execStaleTimerExpiry, if_neg (by simpa using hn)]

end Sys2Proof.Machine
end

section
/-! PROOF. What a join notice can do to the mode (R26 to R28, R44), whatever the notice. -/

namespace Sys2Proof.Machine

/-! ## What the beginning of a stop hold leaves -/

/-- `t` is `s` but for the lines, the tank monitor, the governor and the report queues. -/
def Apart (s t : State) : Prop := t = { s with out := t.out, tank := t.tank, links := t.links, gov := t.gov }

theorem Apart.refl (s : State) : Apart s s := rfl

theorem Apart.trans {s t u : State} (h : Apart s t) (k : Apart t u) : Apart s u := by
  rw [Apart] at *
  rw [k, h]

theorem Apart.of_lineOnly {n : Fin 10} {s t : State} (h : LineOnly n s t) : Apart s t := by
  rw [LineOnly] at h
  rw [Apart, h]
  rfl

theorem Apart.foldl {α : Type} {f : State → α → State} (h : ∀ s a, Apart s (f s a)) :
    ∀ (l : List α) (s : State), Apart s (l.foldl f s)
  | [], s => .refl s
  | a :: l, s => (h s a).trans (Apart.foldl h l _)

theorem Apart.ilk {s t : State} (h : Apart s t) : t.ilk = s.ilk := by rw [h]
theorem Apart.disc {s t : State} (h : Apart s t) : t.disc = s.disc := by rw [h]
theorem Apart.pto {s t : State} (h : Apart s t) : t.pto = s.pto := by rw [h]

theorem modTank_apart (f : TankMonitor → TankMonitor) (s : State) : Apart s (s.modTank f) := rfl
theorem raise_apart (k : ReportKey) (s : State) : Apart s (raise k s) := rfl

theorem reconJudge_apart (arrival : Bool) (s : State) : Apart s (reconJudge arrival s) := by
  unfold reconJudge
  split
  · rfl
  · rfl
  · exact .refl s

theorem setFill_apart (on : Bool) (s : State) : Apart s (setFill on s) := by
  unfold setFill
  split
  · exact .refl s
  · refine (Apart.of_lineOnly (command_lineOnly fillValve on s)).trans (Apart.trans ?_ (reconJudge_apart _ _))
    split
    · rfl
    · rfl

theorem fillJudgeOn_apart (v : Int) (s : State) : Apart s (fillJudgeOn v s) := by
  unfold fillJudgeOn
  dsimp only
  have h : ∀ u : State, Apart s u → ∀ c : Bool, Apart s (if c = true then raise .fill (setFill (fillTarget v s) u)
      else setFill (fillTarget v s) u) := by
    intro u hu c
    cases c
    · exact hu.trans (setFill_apart _ u)
    · exact (hu.trans (setFill_apart _ u)).trans (raise_apart _ _)
  apply h
  split
  · exact modTank_apart _ s
  · exact .refl s

theorem primerEnd_apart (o : PrimerOutcome) (s : State) : Apart s (primerEnd o s) := by
  unfold primerEnd
  split
  · exact (modTank_apart _ s).trans ((Apart.of_lineOnly (command_lineOnly _ _ _)).trans (raise_apart _ _))
  · exact .refl s

theorem modOut_apart (f : Outputs → Outputs) (s : State) : Apart s (s.modOut f) := rfl
theorem setDuty_apart (s : State) : Apart s (setDuty s) := rfl

theorem latchLine_apart (s : State) (n : Fin 10) : Apart s (latchLine n s) := rfl

theorem holdLines_apart (s : State) : Apart s (holdLines s) := by
  unfold holdLines
  dsimp only
  refine Apart.trans ?_ (Apart.foldl (fun s n => .of_lineOnly (drive_lineOnly n s)) _ _)
  refine Apart.trans ?_ (modOut_apart _ _)
  exact Apart.foldl latchLine_apart _ _

theorem holdBegin_apart (s : State) : Apart s (holdBegin s) := by
  unfold holdBegin fillJudge
  dsimp only
  refine Apart.trans ?_ (fillJudgeOn_apart _ _)
  refine Apart.trans ?_ (modTank_apart _ _)
  exact ((holdLines_apart s).trans (setDuty_apart _)).trans (primerEnd_apart _ _)

/-! ## PARKED with the park brake active is left by no notice -/

/-- The mode is PARKED under an active park brake. -/
def Braked (s : State) : Prop := s.ilk.mode = .parked ∧ s.disc[0].active = true

theorem Braked.of_eq {s t : State} (h : Braked s) (hk : t.ilk.mode = s.ilk.mode) (hd : t.disc = s.disc) : Braked t := by
  rw [Braked, hk, hd]
  exact h

/-- Such a mode stands through a publication of any PTO state but ENGAGED (R26 to R28). -/
theorem ptoPublish_braked {prev : PtoState} {s : State} (h : Braked s) (hp : s.pto.state ≠ .engaged) :
    Braked (ptoPublish prev s) := by
  have hpub := ptoPublish_published prev s
  refine h.of_eq (hpub.moved.1.trans ?_) hpub.reacted.disc
  obtain ⟨hm, hd⟩ := h
  simp [modeAfter, ptoMode, modeJudged, hm, hd, hp]

theorem enterDisengaged_braked {cause : Option AbandonCause} {s : State} (h : Braked s) :
    Braked (enterDisengaged cause s) := by
  have hl := command_lineOnly ptoSol false (s.modPto fun p => { p.noTimers with
    state := .disengaged, stage := none, reason := none, abandon := cause, slip := false })
  refine ptoPublish_braked (h.of_eq (by rw [hl.ilk]; rfl) (Reacted.of_lineOnly hl).disc) ?_
  rw [hl.pto]
  simp

theorem enterDrop_braked {s : State} (h : Braked s) : Braked (enterDrop s) := by
  have hl := command_lineOnly ptoSol false (s.modPto fun p => { p.noTimers with
    state := .releasing, stage := some .drop, reason := none, abandon := none, slip := false
    stageTimer := some (ms (s.cfgN 79)) })
  have h1 : Braked (ptoPublish s.pto.state (command ptoSol false (s.modPto fun p => { p.noTimers with
      state := .releasing, stage := some .drop, reason := none, abandon := none, slip := false
      stageTimer := some (ms (s.cfgN 79)) }))) := by
    refine ptoPublish_braked (h.of_eq (by rw [hl.ilk]; rfl) (Reacted.of_lineOnly hl).disc) ?_
    rw [hl.pto]
    simp
  unfold enterDrop
  dsimp only
  split
  · exact h1
  · exact enterDisengaged_braked h1

theorem enterSpinDown_braked {s : State} (h : Braked s) : Braked (enterSpinDown s) := by
  have h1 : Braked (ptoPublish s.pto.state (s.modPto fun p => { p.noTimers with
      state := .releasing, stage := some .spinDown, reason := none, abandon := none, slip := false
      stageTimer := some (ms (s.cfgN 77)) })) := ptoPublish_braked (h.of_eq rfl rfl) (by simp)
  unfold enterSpinDown
  dsimp only
  split
  · exact enterDrop_braked h1
  · exact h1

theorem ptoOnNotice_braked {x : Notice} {s : State} (h : Braked s) : Braked (ptoOnNotice x s) := by
  unfold ptoOnNotice
  split
  · exact enterDisengaged_braked h
  · split
    · exact enterDrop_braked h
    · exact enterSpinDown_braked h
  · split
    · exact enterDrop_braked h
    · split
      · exact enterSpinDown_braked h
      · exact h
  · split
    · exact enterDrop_braked h
    · exact h
  · exact h

theorem takeNotice_braked {x : Notice} {s : State} (h : Braked s) : Braked (takeNotice x s) := by
  unfold takeNotice
  dsimp only
  have h1 : Braked (if (x.actions.releasePto || x.actions.inhibitPto) = true then ptoOnNotice x s else s) := by
    split
    · exact ptoOnNotice_braked h
    · exact h
  generalize (if (x.actions.releasePto || x.actions.inhibitPto) = true then ptoOnNotice x s else s) = u at h1
  have h2 : Braked (if x.actions.forceIdle = true then governorForceIdle u else u) := by
    split
    · exact h1.of_eq (by rw [(governorForceIdle_idled u).ilk]) (governorForceIdle_idled u).reacted.disc
    · exact h1
  generalize (if x.actions.forceIdle = true then governorForceIdle u else u) = v at h2
  split
  · exact h2.of_eq (by rw [(holdBegin_apart v).ilk]) (holdBegin_apart v).disc
  · exact h2

/-- No notice of the command takes the mode out of PARKED under an active park brake. -/
theorem settle_braked {s : State} (h : Braked s) : Braked (settle s) := by
  have : ∀ (k : Nat) (u : State), Braked u → Braked (takeNotices k u) := by
    intro k
    induction k with
    | zero => exact fun u hu => hu.of_eq rfl rfl
    | succ k ih =>
      intro u hu
      unfold takeNotices
      split
      · exact hu
      · exact ih _ (takeNotice_braked (hu.of_eq rfl rfl))
  exact this _ s h

end Sys2Proof.Machine
end

section
/-! PROOF. The judgments of the mode at a publication of standstill or of the park brake (R13, R26, R32), and what a
gate expiry makes of the road speed (R12, R34). -/

namespace Sys2Proof.Machine

/-- A second judgment of an entry whose source is absent finds nothing to move. -/
theorem entryMoved_absent_twice (e : Entry) (delay : Nat) (latches : Bool) :
    entryMoved (entryMoved e false delay latches) false delay latches = entryMoved e false delay latches := by
  obtain ⟨state, d, q⟩ := e
  cases state <;> cases latches <;> rfl

/-! ## The PTO controller takes a qualifier -/

/-- What the qualify conditions read (R58). -/
theorem qualifyJudged_congr {s t : State} (hp : t.pto = s.pto) (hd : t.disc = s.disc)
    (hr : t.road.standstill = s.road.standstill) (he : t.pulse.eng = s.pulse.eng) (hs : t.store = s.store) :
    qualifyJudged t = qualifyJudged s := by
  have hf : qualifyFailure t = qualifyFailure s := by
    rw [qualifyFailure, qualifyFailure, hd, hr, he, State.cfgN, State.cfgN, hs]
  simp only [qualifyJudged, hf, hp, State.cfgN, hs]

/-- A publication of the park brake, of neutral or of standstill moves the PTO context alone (R58). -/
theorem ptoOnQualifier_eq (s : State) : ptoOnQualifier s = s.modPto fun _ => qualifyJudged s := by
  unfold ptoOnQualifier
  split
  · rename_i hq
    rw [← judgeQualify_pto hq]
    rfl
  · rename_i hq
    rw [qualifyJudged, if_neg hq]
    rfl

theorem Deaf.of_state {p q : Pto} {x : Notice} (h : Deaf p x) (he : q.state = p.state) : Deaf q x := by
  rw [Deaf, he]
  exact h

/-! ## A judgment of the mode -/

/-- No notice of the interlock unit reaches a PTO that is neither in QUALIFY nor in ENGAGING (R59, R62, R65). -/
theorem Interlocked.deaf_of_state {N : Fin 32 → Prop} {s t : State} (h : Interlocked N s t) (h0 : NoticesTaken s)
    (hs : NoStop s) (hl : SettingsLaw s) (hq : s.pto.state ≠ .qualify) (hn : s.pto.state ≠ .engaging) :
    ∀ x ∈ t.ilk.notices, Deaf t.pto x := by
  obtain ⟨new, e, j⟩ := h.notices
  intro x hx
  rw [e, h0, List.nil_append] at hx
  obtain ⟨-, ha, hd, hz⟩ := j x hx
  rw [Deaf, h.pto]
  exact ⟨hz hs, .inr ⟨hq, hn, fun _ => ha ▸ hl.not_releasePto (hz hs) hd⟩⟩

/-- What a judgment of the mode reads (R26, R32). -/
theorem modeJudged_congr {s t : State} (hm : t.ilk.mode = s.ilk.mode) (hd : t.disc = s.disc)
    (hr : t.road.standstill = s.road.standstill) (hp : t.pto = s.pto) : modeJudged t = modeJudged s := by
  simp only [modeJudged, hm, hd, hr, hp]

theorem Judged.modeJudged_eq {N : Fin 32 → Prop} {s t : State} (h : Judged N s t) : modeJudged t = modeJudged s :=
  modeJudged_congr h.mode h.reacted.disc (by rw [h.road]) h.pto

/-- In QUALIFY and ENGAGING no judgment moves the mode (R27). -/
theorem modeJudged_of_qualify {s : State} (hl : QualifyLaw s) (hq : s.pto.state = .qualify ∨ s.pto.state = .engaging) :
    modeJudged s = s.ilk.mode := by
  have hm := hl hq
  have hp : s.pto.state ≠ .disengaged := by
    obtain hq | hq := hq <;> rw [hq] <;> decide
  simp [modeJudged, hm, hp]

/-- A mode that a judgment has moved is not ROLL, and ROLL is left at standstill under the brake (R26, R32). -/
theorem modeJudged_moved {s : State} (h : modeJudged s ≠ s.ilk.mode) :
    modeJudged s ≠ .roll ∧
      (s.ilk.mode = .roll → s.disc[0].active = true ∧ s.road.standstill = true) ∧ s.ilk.mode ≠ .pump ∧
      (modeJudged s = .pump → s.disc[0].active = true) := by
  unfold modeJudged at *
  cases hm : s.ilk.mode <;> cases hb : s.disc[0].active <;> cases hr : s.road.standstill <;> simp_all

/-- After judgments that give the PTO controller no notice, a judgment of the mode gives it none. -/
theorem modeJudge_deaf {N : Fin 32 → Prop} {s t : State} (h : Judged N s t) (h0 : NoticesTaken s) (hs : PtoSound s)
    (hd : ∀ x ∈ t.ilk.notices, Deaf t.pto x) : ∀ x ∈ (modeJudge t).ilk.notices, Deaf (modeJudge t).pto x := by
  obtain ⟨-, hqual, -, hstop, -, hset⟩ := hs
  rw [modeJudge_eq]
  by_cases hq : s.pto.state = .qualify ∨ s.pto.state = .engaging
  · have : moveMode (modeJudged t) t = t := by
      rw [moveMode, if_pos]
      rw [h.modeJudged_eq, modeJudged_of_qualify hqual hq, h.mode]
    rwa [this]
  · rw [not_or] at hq
    exact ((h.toInterlocked.mono fun _ _ => trivial).trans (moveMode_interlocked (modeJudged t) t)).deaf_of_state h0
      hstop.noStop hset hq.1 hq.2

/-- An entry whose source is absent in the new mode keeps what its own judgment made of it. -/
theorem modeJudge_entry {s : State} {n : Fin 32} {e : Entry} (he : s.ilk.entries[n] =
      entryMoved e false (entryDelay s n) (entryLatches s n))
    (h : modeJudged s ≠ s.ilk.mode → ∀ u, Judged (· ≠ n) (modeBegun (modeJudged s) s) u → effective u n = false) :
    (modeJudge s).ilk.entries[n] = s.ilk.entries[n] := by
  rw [modeJudge_eq]
  by_cases hm : modeJudged s = s.ilk.mode
  · rw [moveMode, if_pos hm]
  · rw [moveMode_entry _ s n false hm (h hm), he, entryMoved_absent_twice]

/-- The mode, the PTO context and the reports after the judgments that a publication of the park brake or of
standstill calls for, at the end of their command. -/
theorem qualifier_settled {s t : State} {m : Mode} (hm : ModeMoved s m t) (hd : ∀ x ∈ t.ilk.notices, Deaf t.pto x) :
    (settle (ptoOnQualifier t)).pto = qualifyJudged t ∧ ModeMoved s m (settle (ptoOnQualifier t)) ∧
      (∀ n : Fin 32, (settle (ptoOnQualifier t)).ilk.entries[n] = t.ilk.entries[n]) ∧
      KeepsReports (· = .governor) t (settle (ptoOnQualifier t)) := by
  rw [ptoOnQualifier_eq]
  have hi := settle_idled (s := t.modPto fun _ => qualifyJudged t) fun x hx =>
    (hd x hx).of_state (qualifyJudged_state t)
  refine ⟨hi.pto, ⟨?_, fun hne => ⟨hi.reports _ _ (by simp) (hm.2 hne).1, fun hp => ?_⟩⟩, fun n => ?_, hi.reports⟩
  · rw [hi.ilk]
    exact hm.1
  · rw [hi.road]
    exact (hm.2 hne).2 hp
  · rw [hi.ilk]
    rfl

/-! ## The gate expiry -/

/-- Entry 4 is effective in ROLL above the road limit, and entry 5 above its margin (R34). -/
theorem effective_overspeed (s : State) :
    effective s 4 = (s.ilk.mode == .roll && decide (s.cfgN 61 < s.road.speed.natAbs)) ∧
    effective s 5 = (s.ilk.mode == .roll && decide (s.cfgN 61 + s.cfgN 62 < s.road.speed.natAbs)) := by
  have hm : ∀ n : Fin 32, n = 4 ∨ n = 5 → (entryModes s n).has s.ilk.mode = (s.ilk.mode == .roll) := by
    rintro n (rfl | rfl) <;> cases s.ilk.mode <;> rfl
  have h4 : sourcePresent s 4 = decide (s.cfg 61 < (s.road.speed.natAbs : Int)) := rfl
  have h5 : sourcePresent s 5 = decide (s.cfg 61 + s.cfg 62 < (s.road.speed.natAbs : Int)) := rfl
  rw [effective, effective, hm 4 (.inl rfl), hm 5 (.inr rfl), h4, h5, s.cfg_eq_cfgN (by decide : 61 ≠ 98),
    s.cfg_eq_cfgN (by decide : 62 ≠ 98), Bool.and_comm, Bool.and_comm (decide _)]
  norm_cast

theorem effective_overspeed_of_mode {s : State} (h : s.ilk.mode ≠ .roll) :
    effective s 4 = false ∧ effective s 5 = false := by
  rw [(effective_overspeed s).1, (effective_overspeed s).2, beq_false_of_ne h]
  exact ⟨rfl, rfl⟩

/-- What the gate's own two judgments make of the part. -/
theorem gate_judged (s : State) : Judged (fun n => n = 4 ∨ n = 5) s (judge 5 (judge 4 s)) :=
  ((judge_judged 4 s).mono fun _ => .inl).trans ((judge_judged 5 _).mono fun _ => .inr)

theorem gate_entries (s : State) :
    (judge 5 (judge 4 s)).ilk.entries[(4 : Fin 32)] = entryMoved s.ilk.entries[(4 : Fin 32)] (effective s 4) 0 false ∧
    (judge 5 (judge 4 s)).ilk.entries[(5 : Fin 32)] =
      entryMoved s.ilk.entries[(5 : Fin 32)] (effective s 5) 3000 true := by
  have h4 := judge_judged 4 s
  have h5 := judge_judged 5 (judge 4 s)
  refine ⟨(h5.entries 4 (by decide)).trans (judge_entry 4 s), (judge_entry 5 _).trans ?_⟩
  rw [h4.entries 5 (by decide), (effective_overspeed _).2, (effective_overspeed s).2, h4.mode, h4.road, State.cfgN,
    State.cfgN, h4.reacted.store]
  rfl

/-- The two entries of the gate are none of the PTO controller's: entry 5 has a delay, and entry 4 limits the road
speed (R34). -/
theorem gate_deaf {s : State} (h0 : NoticesTaken s) :
    ∀ x ∈ (judge 5 (judge 4 s)).ilk.notices, Deaf (judge 5 (judge 4 s)).pto x := by
  refine (gate_judged s).deaf h0 ?_
  rintro n (rfl | rfl) hd
  · exact ⟨by decide, rfl, rfl⟩
  · cases hd

/-- Outside ROLL the gate's judgments give no notice at all. -/
theorem gate_silent {s : State} (h0 : NoticesTaken s) (hm : s.ilk.mode ≠ .roll) :
    (judge 5 (judge 4 s)).ilk.notices = [] := by
  have h4 : joinsAt 4 s = false := by simp [joinsAt, (effective_overspeed_of_mode hm).1]
  have h5 : joinsAt 5 (judge 4 s) = false := by
    simp [joinsAt, (effective_overspeed_of_mode (s := judge 4 s) (by rwa [(judge_judged 4 s).mode])).2]
  rw [judge_notices, judge_notices, h4, h5, h0]
  rfl

/-- Entry 4 has its report where the gate makes it join. -/
theorem gate_reported {s : State} (hc : s.ilk.entries[(4 : Fin 32)].state = .clear) (he : effective s 4 = true) :
    Reported (.lockout 4) ⟨2, 0, 0⟩ (judge 5 (judge 4 s)) := by
  refine (judge_judged 5 _).told _ _ (by simp) ?_
  have : judge 4 s = join 4 s := by
    unfold judge
    rw [hc, he]
    exact if_pos rfl
  rw [this]
  exact join_reported 4 s

/-- A gate that closes in ROAD: a standstill that has come about takes the mode to PARKED under the park brake,
whatever else the part does, and nothing else moves the mode (R26). -/
theorem modeJudge_road {s : State} (h0 : NoticesTaken s) (hm : s.ilk.mode = .road) :
    (settle (ptoOnQualifier (modeJudge s))).ilk.mode =
      if s.disc[0].active = true ∧ s.road.standstill = true then .parked else .road := by
  have hmj : modeJudged s = if s.disc[0].active = true ∧ s.road.standstill = true then .parked else .road := by
    simp [modeJudged, hm]
  rw [modeJudge_eq, hmj, ptoOnQualifier_eq]
  split
  · rename_i hb
    have hk : Braked (moveMode .parked s) :=
      ⟨moveMode_mode _ _, by rw [(moveMode_interlocked _ s).reacted.disc]; exact hb.1⟩
    exact (settle_braked (s := (moveMode .parked s).modPto _) (hk.of_eq rfl rfl)).1
  · have : moveMode .road s = s := if_pos hm.symm
    rw [this, settle_of_no_notice (s.modPto _) h0]
    exact hm

/-- Settles O18: the gate's own judgments (`gate_judged`), then the mode's and the qualifier's (`modeJudge_deaf`,
`qualifier_settled`). -/
theorem gateExpiryJudgesSpeed : Obligations.GateExpiryJudgesSpeed := by
  intro s h0 hg speed run still u rolls
  have hu : (s.modRoad fun r => r.gateClosed (s.cfg 13)) = u := by
    have hspeed : roadSpeed s.road.gate (s.cfg 13) = speed := by
      simp only [roadSpeed, clampInt, speed, min_comm]
    have hstill : (decide (speed = 0) && (s.road.standstill || run == 4)) = still := by
      simp only [still]
      split <;> simp [*]
    simp only [State.modRoad, Road.gateClosed, hspeed]
    simp only [u, ← hstill]
    rfl
  have hsrc4 : effective u 4 = rolls (s.cfgN 61) := (effective_overspeed u).1
  have hsrc5 : effective u 5 = rolls (s.cfgN 61 + s.cfgN 62) := (effective_overspeed u).2
  have hstop : still = true → speed = 0 := by
    simp only [still]
    split <;> simp [*]
  have hj := gate_judged u
  have hd := gate_deaf (s := u) h0
  obtain ⟨he4, he5⟩ := gate_entries u
  have hsil : s.ilk.mode ≠ .roll → NoticesTaken (judge 5 (judge 4 u)) := gate_silent (s := u) h0
  have hrep : s.ilk.entries[(4 : Fin 32)].state = .clear → effective u 4 = true →
    Reported (.lockout 4) ⟨2, 0, 0⟩ (judge 5 (judge 4 u)) := gate_reported (s := u)
  generalize hv : judge 5 (judge 4 u) = v at *
  rw [hsrc4] at he4 hrep
  rw [hsrc5] at he5
  have hstand : v.road.standstill = still := by rw [hj.road]
  have hexec : exec .gateTimerExpiry s =
      .next (settle (if still = s.road.standstill then v else ptoOnQualifier (modeJudge v))) := by
    change execGateTimerExpiry s = _
    rw [execGateTimerExpiry, if_neg (by simpa using hg), hu]
    dsimp only
    rw [hv, hstand]
    rfl
  have hdisc : v.disc = s.disc := hj.reacted.disc
  by_cases hst : still = s.road.standstill
  · simp only [if_pos hst] at hexec ⊢
    obtain ⟨hr, hp, hm, hent, -⟩ := hj.settle hd
    refine ⟨_, hexec, hr, fun hroad => ?_, fun _ => ⟨hp, ⟨hm, fun h => absurd rfl h⟩, (hent 4).trans he4,
      (hent 5).trans he5, fun hc he => (settle_idled hd).reports _ _ (by simp) (hrep hc he)⟩⟩
    rw [hm, hst]
    cases s.road.standstill <;> simpa using hroad
  · simp only [if_neg hst] at hexec ⊢
    refine ⟨_, hexec, hj.reacted.trans ((standstillPublished_reacted v).trans (settle_reacted _)), fun hroad => ?_,
      fun hs => ?_⟩
    · rw [modeJudge_road (hsil (by rw [hroad]; decide)) (hj.mode.trans hroad), hdisc, hstand]
      generalize still = b at hst ⊢
      cases b <;> cases hr : s.road.standstill <;> simp_all
    · have hmj : modeJudged v = modeJudged u := hj.modeJudged_eq
      have hmoved : ModeMoved s (modeJudged u) (modeJudge v) := by
        have := moveMode_moved (modeJudged v) v
        rw [← modeJudge_eq, hmj] at this
        exact ⟨this.1, fun hne => this.2 (by rw [hj.mode]; exact hne)⟩
      have hint : Interlocked (fun _ => True) v (modeJudge v) := by
        rw [modeJudge_eq]
        exact moveMode_interlocked _ v
      obtain ⟨hp, hmv, hent, hkeep⟩ := qualifier_settled hmoved (modeJudge_deaf hj h0 (s := u) hs hd)
      have habsent : modeJudged v ≠ v.ilk.mode → ∀ l, rolls l = false := by
        intro hne l
        obtain ⟨-, hroll, -⟩ := modeJudged_moved hne
        rw [hj.mode] at hroll
        by_cases hr : s.ilk.mode = .roll
        · have : speed = 0 := hstop (hstand.symm.trans (hroll hr).2)
          simp [rolls, this]
        · simp [rolls, hr]
      have hkept : ∀ (n : Fin 32) (l : Nat), n = 4 ∨ n = 5 →
          v.ilk.entries[n] = entryMoved u.ilk.entries[n] (rolls l) (entryDelay v n) (entryLatches v n) →
          (modeJudge v).ilk.entries[n] = v.ilk.entries[n] := by
        intro n l hn he
        by_cases hne : modeJudged v = v.ilk.mode
        · rw [modeJudge_eq, moveMode, if_pos hne]
        · rw [habsent hne] at he
          refine modeJudge_entry he fun _ w hw => ?_
          have hmode : w.ilk.mode ≠ .roll := by
            rw [hw.mode, modeBegun_ilk]
            exact (modeJudged_moved hne).1
          obtain rfl | rfl := hn
          · exact (effective_overspeed_of_mode hmode).1
          · exact (effective_overspeed_of_mode hmode).2
      refine ⟨hp.trans ?_, hmv, ?_, ?_, fun hc he => hkeep _ _ (by simp) ?_⟩
      · exact qualifyJudged_congr (hint.pto.trans hj.pto) (hint.reacted.disc.trans hj.reacted.disc)
          ((congrArg Road.standstill hint.reacted.road :).trans hstand) (by rw [hint.pulse, hj.pulse])
          (hint.reacted.store.trans hj.reacted.store)
      · exact (hent 4).trans ((hkept 4 _ (.inl rfl) he4).trans he4)
      · exact (hent 5).trans ((hkept 5 _ (.inr rfl) he5).trans he5)
      · have : modeJudge v = v := by
          rw [modeJudge_eq, moveMode, if_pos]
          by_contra hne
          rw [habsent hne] at he
          cases he
        rw [this]
        exact hrep hc he

end Sys2Proof.Machine
end

section
/-! PROOF. A debounce expiry (R22, R24), line by line. -/

namespace Sys2Proof.Machine

/-! ## A line that has settled -/

/-- The part with a line settled, and not yet published. -/
def switchSettled (n : Fin 12) (reads : Bool) (s : State) : State :=
  s.modSwitch n fun l => { l with active := reads, debounce := none, settled := true }

theorem switchSettled_self (n : Fin 12) (reads : Bool) (s : State) :
    (switchSettled n reads s).disc[n] = { s.disc[n] with active := reads, debounce := none, settled := true } := by
  simp [switchSettled]

theorem switchSettled_brake (reads : Bool) (s : State) : (switchSettled 0 reads s).disc[0] =
    { s.disc[0] with active := reads, debounce := none, settled := true } := switchSettled_self 0 reads s

theorem switchSettled_other {n m : Fin 12} (h : n ≠ m) (reads : Bool) (s : State) :
    (switchSettled n reads s).disc[m] = s.disc[m] := by
  simp [switchSettled, Fin.val_ne_of_ne h]

theorem switchSettled_source (n : Fin 12) (reads : Bool) (s : State) :
    lineSource (switchSettled n reads s) n = reads := by
  rw [lineSource, switchSettled_self, Bool.true_and]

/-- The laws of the PTO controller do not read any line but PUMP_STOP. -/
theorem PtoSound.switchSettled {n : Fin 12} {reads : Bool} {s : State} (h : PtoSound s) (hn : n ≠ 3) :
    PtoSound (switchSettled n reads s) := by
  obtain ⟨h1, h2, h3, h4, h5, h6⟩ := h
  refine ⟨h1, h2, h3, ?_, h5, h6⟩
  rw [StopTaken, lineSource, switchSettled_other hn]
  exact h4

/-- A debounce expiry settles its line, and publishes it. -/
theorem exec_debounceExpiry {n : Fin 12} {s : State} (h : s.disc[n].debounce ≠ none) :
    exec (.debounceExpiry n) s =
      .next (settle (switchPublished n (switchSettled n (interpret s n s.disc[n].raw) s))) := by
  change execDebounceExpiry n s = _
  rw [execDebounceExpiry, if_neg (by simpa using h)]
  rfl

/-! ## A PTO that is DISENGAGED -/

/-- No notice moves the mode or the context of a PTO that is DISENGAGED. -/
theorem takeNotice_disengaged {x : Notice} {s : State} (h : s.pto.state = .disengaged) :
    (takeNotice x s).ilk = s.ilk ∧ (takeNotice x s).pto = s.pto := by
  have h1 : ptoOnNotice x s = s := by
    unfold ptoOnNotice
    rw [h]
  have h2 : ∀ u : State, u.ilk = s.ilk ∧ u.pto = s.pto →
      (if x.entry = 0 then holdBegin u else u).ilk = s.ilk ∧ (if x.entry = 0 then holdBegin u else u).pto = s.pto := by
    intro u hu
    split
    · rw [(holdBegin_apart u).ilk, (holdBegin_apart u).pto]
      exact hu
    · exact hu
  unfold takeNotice
  dsimp only
  rw [h1, ite_self]
  refine h2 _ ?_
  split
  · exact ⟨(governorForceIdle_idled s).ilk, (governorForceIdle_idled s).pto⟩
  · exact ⟨rfl, rfl⟩

theorem settle_disengaged {s : State} (h : s.pto.state = .disengaged) :
    (settle s).ilk.mode = s.ilk.mode ∧ (settle s).pto = s.pto := by
  have : ∀ (k : Nat) (u : State), u.pto.state = .disengaged →
      (takeNotices k u).ilk.mode = u.ilk.mode ∧ (takeNotices k u).pto = u.pto := by
    intro k
    induction k with
    | zero => exact fun u _ => ⟨rfl, rfl⟩
    | succ k ih =>
      intro u hu
      unfold takeNotices
      split
      · exact ⟨rfl, rfl⟩
      · rename_i x rest _
        obtain ⟨hk, hp⟩ := takeNotice_disengaged (x := x) (s := u.modIlk fun i => { i with notices := rest }) hu
        obtain ⟨h1, h2⟩ := ih _ (by rw [hp]; exact hu)
        rw [h1, h2, hk, hp]
        exact ⟨rfl, rfl⟩
  exact this _ s h

/-! ## The park brake -/

/-- Entry 7 is effective in PUMP under a settled and inactive park brake (R34). -/
theorem effective_brake (s : State) :
    effective s 7 = (s.disc[0].settled && !s.disc[0].active && s.ilk.mode == .pump) := by
  have hm : (entryModes s 7).has s.ilk.mode = (s.ilk.mode == .pump) := by cases s.ilk.mode <;> rfl
  rw [effective, hm]
  rfl

/-- Entry 7 has a delay, so that its judgment gives no notice. -/
theorem judge_brake_notices (s : State) : (judge 7 s).ilk.notices = s.ilk.notices := by
  have : joinsAt 7 s = false := Bool.and_false _
  rw [judge_notices, this]
  exact List.append_nil _

/-- Entry 7 after the mode and it have been judged (R35): a mode that has moved leaves its source absent. -/
theorem brake_entry {s : State} (hs : s.disc[0].settled = true) :
    (judge 7 (modeJudge s)).ilk.entries[(7 : Fin 32)] =
      entryMoved s.ilk.entries[(7 : Fin 32)] (!s.disc[0].active && s.ilk.mode == .pump) 1000 false := by
  have he : (judge 7 (modeJudge s)).ilk.entries[(7 : Fin 32)] =
      entryMoved (modeJudge s).ilk.entries[(7 : Fin 32)] (effective (modeJudge s) 7) 1000 false := judge_entry 7 _
  rw [he, modeJudge_eq]
  by_cases hm : modeJudged s = s.ilk.mode
  · rw [moveMode, if_pos hm, effective_brake, hs, Bool.true_and]
  · obtain ⟨-, -, hp, hb⟩ := modeJudged_moved hm
    have habsent : ∀ u : State, u.disc = s.disc → u.ilk.mode = modeJudged s → effective u 7 = false := by
      intro u hd hk
      rw [effective_brake, hd, hk, hs, Bool.true_and]
      by_cases hj : modeJudged s = .pump
      · rw [hb hj]
        rfl
      · rw [beq_false_of_ne hj, Bool.and_false]
    have hi := moveMode_interlocked (modeJudged s) s
    rw [moveMode_entry _ s 7 false hm fun u hu => habsent u
        (hu.reacted.disc.trans (modeBegun_interlocked (N := fun _ => True) _ s).reacted.disc)
        (by rw [hu.mode, modeBegun_ilk]),
      habsent _ hi.reacted.disc (moveMode_mode _ s), beq_false_of_ne hp, Bool.and_false]
    exact entryMoved_absent_twice _ _ _

/-! ## PTO_CONFIRM -/

/-- Entry 2 is effective under PTO_CONFIRM in DISENGAGED and in FAULT (R34). -/
theorem effective_confirm (s : State) :
    effective s 2 = (lineSource s 2 && (s.pto.state == .disengaged || s.pto.state == .fault)) := by
  have : (entryModes s 2).has s.ilk.mode = true := by cases s.ilk.mode <;> rfl
  rw [effective, this, Bool.and_true]
  rfl

theorem effective_confirm_congr {s t : State} (hd : t.disc = s.disc) (hp : t.pto = s.pto) :
    effective t 2 = effective s 2 := by
  rw [effective_confirm, effective_confirm, lineSource, hd, hp]
  rfl

/-- A publication of a PTO state in which entry 2's source is absent judges it so. -/
theorem ptoPublish_confirm {prev : PtoState} {s : State} (h : effective s 2 = false) {e : Entry}
    (he : s.ilk.entries[(2 : Fin 32)] = entryMoved e false 500 false) :
    (ptoPublish prev s).ilk.entries[(2 : Fin 32)] = s.ilk.entries[(2 : Fin 32)] := by
  let s0 := raise .pto s
  have hout : (ptoPublish prev s).ilk = (interlockOnPto prev s0).ilk :=
    ((governorOnPto_downstream prev _).trans ((pumpReadyJudge_downstream _).trans ((tankOnPto_downstream prev _).trans
      ((pulseOnPto_downstream prev _).trans (arbiterOnPto_downstream _))))).ilk
  have hmode : ∀ m, (moveMode m s0).ilk.entries[(2 : Fin 32)] = s.ilk.entries[(2 : Fin 32)] := by
    intro m
    by_cases hm : m = s0.ilk.mode
    · rw [moveMode, if_pos hm]
      rfl
    · rw [moveMode_entry m s0 2 false hm fun u hu => ?_]
      · change entryMoved s.ilk.entries[(2 : Fin 32)] false 500 false = _
        rw [he, entryMoved_absent_twice]
      · have hb := modeBegun_interlocked (N := fun _ => True) m s0
        rw [effective_confirm_congr (hu.reacted.disc.trans hb.reacted.disc) (hu.pto.trans hb.pto)]
        exact h
  have hjudged : ∀ u : State, Interlocked (fun _ => True) s0 u →
      u.ilk.entries[(2 : Fin 32)] = s.ilk.entries[(2 : Fin 32)] →
      (judge 3 (judge 2 (judge 1 u))).ilk.entries[(2 : Fin 32)] = s.ilk.entries[(2 : Fin 32)] := by
    intro u hu hk
    have h1 := judge_judged 1 u
    rw [(judge_judged 3 _).entries 2 (by decide), judge_entry,
      effective_confirm_congr (h1.reacted.disc.trans hu.reacted.disc) (h1.pto.trans hu.pto),
      h1.entries 2 (by decide), hk]
    change entryMoved _ (effective s 2) 500 false = _
    rw [h, he, entryMoved_absent_twice]
  have : (interlockOnPto prev s0).ilk.entries[(2 : Fin 32)] = s.ilk.entries[(2 : Fin 32)] := by
    rw [interlockOnPto_eq]
    split
    · exact hjudged _ (Judged.refl _ s0).toInterlocked rfl
    · exact hjudged _ (moveMode_interlocked _ s0) (hmode _)
  simpa only [hout] using this

/-- What follows deaf notices leaves the entries. -/
theorem Idled.entry {s t : State} {l : List Notice} (h : Idled (s.modIlk fun i => { i with notices := l }) t)
    (n : Fin 32) : t.ilk.entries[n] = s.ilk.entries[n] := by
  rw [h.ilk]
  rfl

/-- Such a publication, with the end of its command. -/
theorem ptoPublish_confirm_settled {prev : PtoState} {s : State} (h : effective s 2 = false) {e : Entry}
    (he : s.ilk.entries[(2 : Fin 32)] = entryMoved e false 500 false) (h0 : NoticesTaken s) (hs : NoStop s)
    (hl : SettingsLaw s) (hp : s.pto.state ≠ .qualify ∧ s.pto.state ≠ .engaging) :
    (settle (ptoPublish prev s)).ilk.entries[(2 : Fin 32)] = s.ilk.entries[(2 : Fin 32)] := by
  have hpub := ptoPublish_published prev s
  obtain ⟨new, en, j⟩ := hpub.notices
  have hi := settle_idled (s := ptoPublish prev s) fun x hx => by
    rw [en, h0, List.nil_append] at hx
    obtain ⟨-, ha, hd, hz⟩ := j x hx
    rw [Deaf, hpub.pto]
    exact ⟨hz hs, .inr ⟨hp.1, hp.2, fun _ => ha ▸ hl.not_releasePto (hz hs) hd⟩⟩
  exact (hi.entry 2).trans (ptoPublish_confirm h he)

/-- PTO_CONFIRM that has settled: entry 2 is judged, and no move of the PTO that follows judges it otherwise (R60,
R64, R67). -/
theorem confirm_settled {s : State} (h0 : NoticesTaken s) (hs : NoStop s) (hl : SettingsLaw s) :
    (settle (ptoOnConfirm (judge 2 s))).ilk.entries[(2 : Fin 32)] =
      entryMoved s.ilk.entries[(2 : Fin 32)] (effective s 2) 500 false := by
  have hj := judge_judged 2 s
  have he : (judge 2 s).ilk.entries[(2 : Fin 32)] =
    entryMoved s.ilk.entries[(2 : Fin 32)] (effective s 2) 500 false := judge_entry 2 s
  have hn : NoticesTaken (judge 2 s) := by
    have : joinsAt 2 s = false := Bool.and_false _
    rw [NoticesTaken, judge_notices, this, h0]
    rfl
  rw [← he]
  generalize judge 2 s = v at hj he hn
  have hstay : (settle v).ilk.entries[(2 : Fin 32)] = v.ilk.entries[(2 : Fin 32)] := by
    rw [settle_of_no_notice _ hn]
  have hmove : ∀ (prev : PtoState) (w : State), Reacted v w → w.ilk = v.ilk → effective w 2 = false →
      w.pto.state ≠ .qualify ∧ w.pto.state ≠ .engaging → v.pto.state ≠ .disengaged → v.pto.state ≠ .fault →
      (settle (ptoPublish prev w)).ilk.entries[(2 : Fin 32)] = v.ilk.entries[(2 : Fin 32)] := by
    intro prev w hr hk hw hp h1 h2
    have hke : w.ilk.entries[(2 : Fin 32)] = v.ilk.entries[(2 : Fin 32)] := by rw [hk]
    rw [effective_confirm, ← hj.pto, beq_false_of_ne h1, beq_false_of_ne h2, Bool.or_self, Bool.and_false] at he
    exact (ptoPublish_confirm_settled hw (hke.trans he) (by rw [NoticesTaken, hk]; exact hn)
      ((hj.stop hs).of_eq hr.disc (by rw [hk]))
      (by rwa [SettingsLaw, hr.store, hj.reacted.store]) hp).trans hke
  have hleft : ∀ (f : Pto → Pto) (prev : PtoState), (f v.pto).state = .disengaged ∨ (f v.pto).state = .fault →
      ¬ v.disc[2].active = true → v.pto.state ≠ .disengaged → v.pto.state ≠ .fault →
      (settle (ptoPublish prev (command ptoSol false (v.modPto f)))).ilk.entries[(2 : Fin 32)] =
        v.ilk.entries[(2 : Fin 32)] := by
    intro f prev hf ha h1 h2
    have hc := command_lineOnly ptoSol false (v.modPto f)
    have hr : Reacted v (command ptoSol false (v.modPto f)) := (Reacted.modPto f v).trans (.of_lineOnly hc)
    refine hmove prev _ hr hc.ilk ?_ ?_ h1 h2
    · have : lineSource (command ptoSol false (v.modPto f)) 2 = false := by
        rw [lineSource, hr.disc, Bool.and_eq_false_iff]
        exact .inr (by simpa using ha)
      rw [effective_confirm, this, Bool.false_and]
    · rw [hc.pto, State.modPto_pto]
      obtain hf | hf := hf <;> rw [hf] <;> decide
  unfold ptoOnConfirm
  split
  · rename_i hst
    rw [judgeConfirm_eq]
    split
    · unfold enterEngaged
      refine hmove _ _ (.modPto _ v) rfl ?_ ⟨by simp, by simp⟩ (by rw [hst]; decide) (by rw [hst]; decide)
      rw [effective_confirm]
      exact Bool.and_false _
    · exact hstay
  · rename_i hst
    split
    · exact hstay
    · unfold enterFault
      exact hleft _ _ (.inr rfl) ‹_› (by rw [hst]; decide) (by rw [hst]; decide)
  · rename_i hst _
    split
    · exact hstay
    · unfold enterDisengaged
      exact hleft _ _ (.inl rfl) ‹_› (by rw [hst]; decide) (by rw [hst]; decide)
  · exact hstay

/-! ## PUMP_STOP, where it begins no stop -/

/-- PUMP_STOP's judgment where entry 0 does not join (R35). -/
theorem pumpStop_settled {s : State} (h0 : NoticesTaken s)
    (h : lineSource s 3 = false ∨ s.ilk.entries[(0 : Fin 32)].state ≠ .clear) :
    settle (judge 0 s) = judge 0 s := by
  refine settle_of_no_notice _ ?_
  have hj : joinsAt 0 s = false := by
    obtain h | h := h
    · rw [joinsAt, effective_zero, h, Bool.and_false, Bool.false_and]
    · rw [joinsAt, beq_false_of_ne h, Bool.false_and, Bool.false_and]
  rw [judge_notices, hj, h0]
  rfl

/-! ## The configurable entries of a line -/

/-- Judgments of the entries of a list move those alone. -/
theorem judges_judged : ∀ (l : List (Fin 32)) (s : State), Judged (· ∈ l) s (l.foldl (fun s n => judge n s) s)
  | [], s => .refl _ s
  | n :: l, s => ((judge_judged n s).mono fun _ h => by rw [h]; exact List.mem_cons_self).trans
      ((judges_judged l _).mono fun _ h => List.mem_cons_of_mem n h)

/-- A configurable entry's fields in the settings (R36, R166). -/
theorem configurable_fields (s : State) {e : Fin 32} (he : 16 ≤ e.val) :
    entryModes s e = modeSetOf (s.cfgN (257 + 5 * (e.val - 16))) ∧
    entryLatches s e = (s.cfg (259 + 5 * (e.val - 16)) == 1) ∧
    entryDelay s e = s.cfgN (260 + 5 * (e.val - 16)) ∧
    entrySource s e = s.cfgN (256 + 5 * (e.val - 16)) := by
  have hi : ∀ k, entryItem e k = 256 + k + 5 * (e.val - 16) := by
    intro k
    unfold entryItem
    omega
  rw [entrySource, ← hi 1, ← hi 3, ← hi 4, ← hi 0]
  obtain ⟨k, hk⟩ := e
  obtain ⟨j, rfl⟩ : ∃ j, k = j + 16 := ⟨k - 16, by simp at he; omega⟩
  have hn : ¬ j + 16 < 16 := Nat.not_lt.2 (Nat.le_add_left 16 j)
  have h : ∀ {α : Type} (x y : α), (if j + 16 < 16 then x else y) = y := fun _ _ => if_neg hn
  exact ⟨h allModes _, h false _, h 0 _, rfl⟩

/-- A mode set read from its bits (R36). -/
theorem modeSetOf_has (v : Nat) (m : Mode) : (modeSetOf v).has m = v.testBit m.code := by
  cases m <;> rfl

/-- A configurable entry that names a line is effective while the line is settled and active, in its modes (R36). -/
theorem effective_configurable {s : State} {e : Fin 32} {n : Fin 12} (he : 16 ≤ e.val) (hn : 4 ≤ n.val)
    (hs : entrySource s e = n.val) :
    effective s e = (lineSource s n && (s.cfgN (257 + 5 * (e.val - 16))).testBit s.ilk.mode.code) := by
  have hp : sourcePresent s e = if h : 4 ≤ entrySource s e ∧ entrySource s e < 12
      then lineSource s ⟨entrySource s e, h.2⟩ else false := by
    obtain ⟨k, hk⟩ := e
    obtain ⟨j, rfl⟩ : ∃ j, k = j + 16 := ⟨k - 16, by simp at he; omega⟩
    rfl
  rw [effective, hp, (configurable_fields s he).1, modeSetOf_has, dif_pos ⟨by omega, by omega⟩]
  congr 2
  exact Fin.ext hs

/-- A line of D4 to D11 judges the configurable entries that name it, once each (R35). -/
theorem judgeLine_entries {n : Fin 12} (hn : 4 ≤ n.val) (s : State) (e : Fin 32) :
    (judgeLine n s).ilk.entries[e] =
      if 16 ≤ e.val ∧ s.cfgN (256 + 5 * (e.val - 16)) = n.val then
        entryMoved s.ilk.entries[e]
          (lineSource s n && (s.cfgN (257 + 5 * (e.val - 16))).testBit s.ilk.mode.code)
          (s.cfgN (260 + 5 * (e.val - 16))) (s.cfg (259 + 5 * (e.val - 16)) == 1)
      else s.ilk.entries[e] := by
  have hmem : e ∈ allEntries.filter (fun k => decide (16 ≤ k.val) && entrySource s k == n.val) ↔
      16 ≤ e.val ∧ entrySource s e = n.val := by
    simp [List.mem_filter, mem_allEntries]
  unfold judgeLine
  by_cases he : 16 ≤ e.val ∧ entrySource s e = n.val
  · obtain ⟨hmodes, hlatch, hdelay, hsrc⟩ := configurable_fields s he.1
    rw [if_pos (hsrc ▸ he), foldl_judge_entry e _ _ s (allEntries_nodup.filter _) fun u hu => ?_, if_pos (hmem.2 he),
      hlatch, hdelay]
    rw [effective_configurable he.1 hn (by rw [entrySource_of_store hu.reacted.store]; exact he.2), hu.mode, lineSource,
      hu.reacted.disc, State.cfgN, hu.reacted.store]
    rfl
  · have hne : ¬ (16 ≤ e.val ∧ s.cfgN (256 + 5 * (e.val - 16)) = n.val) := by
      rintro ⟨h1, h2⟩
      exact he ⟨h1, (configurable_fields s h1).2.2.2.trans h2⟩
    rw [if_neg hne]
    exact (judges_judged _ s).entries e (mt hmem.1 he)

/-! ## The expiry -/

/-- A park brake that settles while the PTO is DISENGAGED moves the mode as R26 has it, whatever else the part does. -/
theorem brake_mode {s : State} (h : s.pto.state = .disengaged) :
    (settle (switchPublished 0 s)).ilk.mode = modeJudged s ∧
      (settle (switchPublished 0 s)).pto.state = .disengaged := by
  have hj := judge_judged 7 (modeJudge s)
  have hm := moveMode_interlocked (modeJudged s) s
  rw [← modeJudge_eq] at hm
  have hp : (qualifyJudged (judge 7 (modeJudge s))).state = .disengaged := by
    rw [qualifyJudged_state, hj.pto, hm.pto]
    exact h
  have hd := settle_disengaged (s := (judge 7 (modeJudge s)).modPto fun _ => qualifyJudged (judge 7 (modeJudge s))) hp
  have he : switchPublished 0 s =
      (judge 7 (modeJudge s)).modPto fun _ => qualifyJudged (judge 7 (modeJudge s)) := ptoOnQualifier_eq _
  rw [he, hd.1, hd.2]
  refine ⟨?_, hp⟩
  change (judge 7 (modeJudge s)).ilk.mode = _
  rw [hj.mode, modeJudge_eq, moveMode_mode]

/-- A park brake that settles: the mode, entry 7 and the qualify conditions (R26, R32, R35, R58). -/
theorem brake_settled {s : State} (h0 : NoticesTaken s) (hs : PtoSound s) (hset : s.disc[0].settled = true) :
    (settle (switchPublished 0 s)).pto = qualifyJudged s ∧
      ModeMoved s (modeJudged s) (settle (switchPublished 0 s)) ∧
      (settle (switchPublished 0 s)).ilk.entries[(7 : Fin 32)] =
        entryMoved s.ilk.entries[(7 : Fin 32)] (!s.disc[0].active && s.ilk.mode == .pump) 1000 false := by
  have hi := moveMode_interlocked (modeJudged s) s
  have hm := moveMode_moved (modeJudged s) s
  rw [← modeJudge_eq] at hi hm
  have hj := judge_judged 7 (modeJudge s)
  have hd : ∀ x ∈ (judge 7 (modeJudge s)).ilk.notices, Deaf (judge 7 (modeJudge s)).pto x := by
    rw [judge_brake_notices, hj.pto]
    exact modeJudge_deaf (N := fun _ => False) (.refl _ s) h0 hs (by rw [h0]; simp)
  obtain ⟨hp, hmv, hent, -⟩ := qualifier_settled (hm.judged hj) hd
  exact ⟨hp.trans (qualifyJudged_congr (hj.pto.trans hi.pto) (hj.reacted.disc.trans hi.reacted.disc)
      ((congrArg Road.standstill hj.reacted.road :).trans (congrArg Road.standstill hi.reacted.road :))
      (by rw [hj.pulse, hi.pulse]) (hj.reacted.store.trans hi.reacted.store)),
    hmv, (hent 7).trans (brake_entry hset)⟩

/-- Settles O21, line by line. -/
theorem debounceExpirySettlesLine : Obligations.DebounceExpirySettlesLine := by
  intro n s hl hlive h0 hdeb reads
  have hreads : interpret s n s.disc[n].raw = reads := hl.interpret_eq hlive n _
  have hexec := exec_debounceExpiry hdeb
  rw [hreads] at hexec
  have hr : Reacted (switchSettled n reads s) (settle (switchPublished n (switchSettled n reads s))) :=
    (switchPublished_reacted n _).trans (settle_reacted _)
  refine ⟨_, hexec, hr, ?_, ?_, fun hs => ⟨?_, ?_, ?_, ?_, ?_⟩⟩
  · rintro rfl hm hp hf
    obtain ⟨h1, h2⟩ := brake_mode (s := switchSettled 0 reads s) hp
    refine ⟨h1.trans ?_, h2⟩
    have ha : (switchSettled 0 reads s).disc[0].active = false := by rw [switchSettled_brake]; exact hf
    simp [modeJudged, ha, show (switchSettled 0 reads s).ilk = s.ilk from rfl,
      show (switchSettled 0 reads s).pto = s.pto from rfl, hm, hp]
  · rintro rfl hm hf hst hp
    obtain ⟨h1, h2⟩ := brake_mode (s := switchSettled 0 reads s) hp
    refine ⟨h1.trans ?_, h2⟩
    have ha : (switchSettled 0 reads s).disc[0].active = true := by rw [switchSettled_brake]; exact hf
    simp [modeJudged, ha, show (switchSettled 0 reads s).ilk = s.ilk from rfl,
      show (switchSettled 0 reads s).road = s.road from rfl, hm, hst]
  · rintro rfl
    have hsound := hs.switchSettled (n := 0) (reads := reads) (by decide)
    obtain ⟨h1, h2, h3⟩ := brake_settled (s := switchSettled 0 reads s) h0 hsound (by rw [switchSettled_brake])
    rw [hr.disc]
    refine ⟨h1, h2, h3.trans ?_⟩
    rw [switchSettled_brake]
    rfl
  · rintro rfl
    have hq : switchPublished 1 (switchSettled 1 reads s) =
        (switchSettled 1 reads s).modPto fun _ => qualifyJudged (switchSettled 1 reads s) := ptoOnQualifier_eq _
    rw [hr.disc, hq, settle_of_no_notice ((switchSettled 1 reads s).modPto _) h0]
    exact ⟨rfl, rfl⟩
  · rintro rfl
    have hsound := hs.switchSettled (n := 2) (reads := reads) (by decide)
    obtain ⟨-, -, -, hstop, -, -⟩ := hsound
    refine (confirm_settled (s := switchSettled 2 reads s) h0 hstop.noStop hl).trans ?_
    rw [effective_confirm, switchSettled_source]
    rfl
  · rintro rfl hf
    have hq : switchPublished 3 (switchSettled 3 reads s) = judge 0 (switchSettled 3 reads s) := rfl
    have hj := judge_judged 0 (switchSettled 3 reads s)
    rw [hq, pumpStop_settled (s := switchSettled 3 reads s) h0
      (hf.imp_left fun h => (switchSettled_source 3 reads s).trans h)]
    refine ⟨(judge_entry 0 _).trans ?_, hj.pto, hj.mode, hj.bounds.hold⟩
    rw [effective_zero, switchSettled_source]
    rfl
  · intro hn hq he
    have hn3 : n ≠ 3 := by rintro rfl; exact absurd hn (by decide)
    obtain ⟨-, -, -, hstop, -, -⟩ := hs.switchSettled (reads := reads) hn3
    have hq' : switchPublished n (switchSettled n reads s) = judgeLine n (switchSettled n reads s) := by
      unfold switchPublished
      rw [if_neg, if_neg, if_neg, if_neg hn3] <;> rintro rfl <;> exact absurd hn (by decide)
    have hj := judges_judged (allEntries.filter fun k =>
      decide (16 ≤ k.val) && entrySource (switchSettled n reads s) k == n.val) (switchSettled n reads s)
    obtain ⟨-, hp, hm, hent, -⟩ := hj.settle (hj.deaf_of_state (s := switchSettled n reads s) h0 hstop.noStop hl hq he)
    rw [hq']
    refine ⟨hp, hm, fun e => (hent e).trans ((judgeLine_entries hn _ e).trans ?_)⟩
    rw [switchSettled_source]
    rfl

end Sys2Proof.Machine
end

section
/-! PROOF. Runs of commands (R128, R129): what a line keeps through them, and the commands that a pump stop's event gives
before the stop hold begins (R49 to R51, R56, R117, R123, R130). -/

namespace Sys2Proof.Machine

/-! ## A run of commands -/

/-- `t`'s lines are those of `s` after some commands of `K`. -/
inductive Commanded (K : Fin 10 → Bool → Prop) : State → State → Prop
  | of_out {s t : State} : t.out = s.out → Commanded K s t
  | command {n : Fin 10} {on : Bool} (s : State) : K n on → Commanded K s (command n on s)
  | trans {s t u : State} : Commanded K s t → Commanded K t u → Commanded K s u

variable {K : Fin 10 → Bool → Prop}

theorem Commanded.refl (s : State) : Commanded K s s := .of_out rfl

/-- Line `n` stands, or has been commanded from the other level to `on`. -/
def Pushed (n : Fin 10) (on : Bool) (s t : State) : Prop :=
  t.out.lines[n] = s.out.lines[n] ∨ s.out.lines[n].commanded = !on ∧ t.out.lines[n].commanded = on

theorem Pushed.trans {n : Fin 10} {on : Bool} {s t u : State} (h : Pushed n on s t) (k : Pushed n on t u) :
    Pushed n on s u := by
  obtain h | ⟨h1, h2⟩ := h
  · rwa [Pushed, ← h]
  · obtain k | ⟨k1, -⟩ := k
    · exact .inr ⟨h1, by rw [k, h2]⟩
    · rw [h2] at k1
      cases on <;> cases k1

/-- A line that stands as commanded has not moved. -/
theorem Pushed.eq {n : Fin 10} {on : Bool} {s t : State} (h : Pushed n on s t)
    (hc : t.out.lines[n].commanded = s.out.lines[n].commanded) : t.out.lines[n] = s.out.lines[n] := by
  obtain h | ⟨h1, h2⟩ := h
  · exact h
  · rw [h1, h2] at hc
    cases on <;> cases hc

theorem command_pushed (n : Fin 10) (on : Bool) (s : State) : Pushed n on s (command n on s) := by
  by_cases h : s.out.lines[n].commanded = on
  · left
    unfold command
    rw [if_pos h]
  · exact .inr ⟨by cases on <;> simpa using h, command_commanded n on s⟩

/-- A line that is commanded one way alone. -/
theorem Commanded.pushed {n : Fin 10} {on : Bool} {s t : State} (h : Commanded K s t)
    (hn : ∀ b, K n b → b = on) : Pushed n on s t := by
  induction h with
  | of_out h => exact .inl (by rw [h])
  | @command m b s hm =>
    by_cases hnm : n = m
    · subst hnm
      rw [hn b hm]
      exact command_pushed n on s
    · exact .inl (command_other hnm b s)
  | trans _ _ h k => exact h.trans k

/-- A line that is not commanded. -/
theorem Commanded.kept {n : Fin 10} {s t : State} (h : Commanded K s t) (hn : ∀ b, ¬ K n b) :
    t.out.lines[n] = s.out.lines[n] := by
  induction h with
  | of_out h => rw [h]
  | @command m b s hm => exact command_other (by rintro rfl; exact hn b hm) b s
  | trans _ _ h k => exact k.trans h

/-- Outside a stop hold a line stands at its free level, and a line that is not FAULT_OPEN at its command. -/
def Free (n : Fin 10) (s : State) : Prop :=
  s.out.hold = false ∧ s.out.lines[n].effective = freeLevel s.out.lines[n]

/-- Such a line without a retry to make. -/
def Plain (n : Fin 10) (s : State) : Prop :=
  s.out.hold = false ∧ s.out.lines[n].diag ≠ .faultOpen ∧ s.out.lines[n].retryPhase = none ∧
    s.out.lines[n].effective = s.out.lines[n].commanded

theorem endRetry_fields (l : OutputLine) :
    l.endRetry.retryPhase = none ∧ l.endRetry.effective = l.effective ∧ l.endRetry.commanded = l.commanded ∧
      l.endRetry.diag = l.diag ∧ l.endRetry.kept = l.kept ∧ l.endRetry.stopState = l.stopState := by
  unfold OutputLine.endRetry
  cases h : l.retryPhase <;> simp [h]

theorem targetLevel_free {n : Fin 10} {s : State} (hn : n ≠ fillValve) (hh : s.out.hold = false) :
    targetLevel s n = freeLevel s.out.lines[n] := by
  unfold targetLevel freeLevel
  dsimp only
  rw [if_neg (fun h => hn h.1), hh, if_neg (by decide)]
  by_cases h : s.out.lines[n].retryPhase = some .offPhase
  · rw [if_pos h, h]
    exact (Bool.and_false _).symm
  · rw [if_neg h]
    have : (s.out.lines[n].retryPhase != some .offPhase) = true := bne_iff_ne.2 h
    rw [this, Bool.and_true]

theorem drive_retryPhase (n : Fin 10) (s : State) :
    (drive n s).out.lines[n].retryPhase = s.out.lines[n].retryPhase := by
  unfold drive
  dsimp only
  split
  · rfl
  · rw [levelChanged_line]
    simp [State.modLine, State.modOut]

/-- A line that is driven outside a stop hold stands at its free level. -/
theorem drive_free {n : Fin 10} {s : State} (hn : n ≠ fillValve) (hh : s.out.hold = false) : Free n (drive n s) := by
  refine ⟨(drive_lineOnly n s).hold.trans hh, ?_⟩
  rw [drive_effective, targetLevel_free hn hh, freeLevel, freeLevel, drive_commanded, drive_retryPhase]

/-- What a changed command makes of its line before the line is driven (R128, R133, R136). -/
def commandTaken (n : Fin 10) (on : Bool) (l : OutputLine) : OutputLine :=
  let l1 := { l with commanded := on }
  if on then l1
  else
    let l2 := l1.endRetry
    if n = driveEn ∧ l2.kept.isSome then { l2 with kept := some false } else l2

theorem command_eq {n : Fin 10} {on : Bool} {s : State} (h : s.out.lines[n].commanded ≠ on) :
    command n on s = beginRetry n (drive n (s.modLine n (commandTaken n on))) := by
  unfold command
  rw [if_neg h]
  rfl

theorem commandTaken_fields (n : Fin 10) (on : Bool) (l : OutputLine) :
    (commandTaken n on l).commanded = on ∧ (commandTaken n on l).stopState = l.stopState ∧
      (commandTaken n on l).diag = l.diag ∧ (l.retryPhase = none → (commandTaken n on l).retryPhase = none) ∧
      (n ≠ driveEn → (commandTaken n on l).kept = l.kept) := by
  obtain ⟨h1, -, h3, h4, h5, h6⟩ := endRetry_fields { l with commanded := on }
  unfold commandTaken
  dsimp only
  cases on
  · rw [if_neg (by decide)]
    split
    · rename_i hd
      exact ⟨h3, h6, h4, fun _ => h1, fun hn => absurd hd.1 hn⟩
    · exact ⟨h3, h6, h4, fun _ => h1, fun _ => h5⟩
  · exact ⟨rfl, rfl, rfl, id, fun _ => rfl⟩

theorem beginRetry_free {n : Fin 10} {s : State} (hn : n ≠ fillValve) (h : Free n s) : Free n (beginRetry n s) := by
  unfold beginRetry
  split
  · exact drive_free hn h.1
  · exact h

theorem Free.command {n m : Fin 10} {on : Bool} {s : State} (h : Free n s) (hn : n ≠ fillValve) :
    Free n (command m on s) := by
  by_cases hnm : n = m
  · subst hnm
    by_cases hc : s.out.lines[n].commanded = on
    · unfold Sys2Proof.Machine.command
      rwa [if_pos hc]
    · rw [command_eq hc]
      exact beginRetry_free hn (drive_free hn h.1)
  · refine ⟨(command_lineOnly m on s).hold.trans h.1, ?_⟩
    rw [command_other hnm]
    exact h.2

theorem Commanded.free {n : Fin 10} {s t : State} (h : Commanded K s t) (hn : n ≠ fillValve) (hs : Free n s) : Free n t := by
  induction h with
  | of_out h => rwa [Free, h]
  | command s _ => exact hs.command hn
  | trans _ _ h k => exact k (h hs)

theorem drive_diag (n : Fin 10) (s : State) :
    (drive n s).out.lines[n].diag = s.out.lines[n].diag ∨ (drive n s).out.lines[n].diag = .blank := by
  unfold drive levelChanged startBlank
  dsimp only
  split
  · exact .inl rfl
  · split
    · split
      · left
        simp
      · right
        simp
    · split
      · left
        simp
      · left
        simp

/-- A line that has no retry to make stands at its command, whatever the commands. -/
theorem Plain.command {n m : Fin 10} {on : Bool} {s : State} (h : Plain n s) (hn : n ≠ fillValve) :
    Plain n (command m on s) := by
  obtain ⟨hh, hd, hp, he⟩ := h
  by_cases hnm : n = m
  · subst hnm
    by_cases hc : s.out.lines[n].commanded = on
    · unfold Sys2Proof.Machine.command
      rw [if_pos hc]
      exact ⟨hh, hd, hp, he⟩
    · obtain ⟨-, -, hdiag, hphase, -⟩ := commandTaken_fields n on s.out.lines[n]
      have hfree := drive_free (s := s.modLine n (commandTaken n on)) hn hh
      have hp' : (drive n (s.modLine n (commandTaken n on))).out.lines[n].retryPhase = none := by
        rw [drive_retryPhase, State.modLine_line_self]
        exact hphase hp
      have hd' : (drive n (s.modLine n (commandTaken n on))).out.lines[n].diag ≠ .faultOpen := by
        obtain h | h := drive_diag n (s.modLine n (commandTaken n on)) <;> rw [h]
        · rw [State.modLine_line_self, hdiag]
          exact hd
        · decide
      have hret : retryDue (drive n (s.modLine n (commandTaken n on))) n = false := by
        unfold retryDue
        dsimp only
        rw [beq_false_of_ne hd', Bool.false_and, Bool.false_and, Bool.false_and, Bool.false_and]
      rw [command_eq hc, beginRetry, if_neg (by rw [hret]; decide)]
      refine ⟨hfree.1, hd', hp', ?_⟩
      rw [hfree.2, freeLevel, hp']
      exact Bool.and_true _
  · rw [Plain, command_other hnm, (command_lineOnly m on s).hold]
    exact ⟨hh, hd, hp, he⟩

theorem Commanded.plain {n : Fin 10} {s t : State} (h : Commanded K s t) (hn : n ≠ fillValve) (hs : Plain n s) : Plain n t := by
  induction h with
  | of_out h => rwa [Plain, h]
  | command s _ => exact hs.command hn
  | trans _ _ h k => exact k (h hs)

/-! ## The commands of a pump stop -/

/-- The commands of the event: DRIVE_EN and THR_LIMIT take either level, ALARM is turned on alone, and PTO_SOL, the
primer, FOAM_EN and PUMP_READY are turned off alone. -/
def StopCommand (n : Fin 10) (on : Bool) : Prop :=
  n = driveEn ∨ n = thrLimit ∨ n = alarmLine ∧ on = true ∨
    (n = ptoSol ∨ n = primerLine ∨ n = foamEn ∨ n = pumpReady) ∧ on = false

/-- `t`'s lines are those of `s` after commands of the event. -/
abbrev Driven (s t : State) : Prop := Commanded StopCommand s t

theorem Driven.refl (s : State) : Driven s s := Commanded.refl s

/-- The lines that the event does not command. -/
theorem Driven.kept {n : Fin 10} {s t : State} (h : Driven s t)
    (hn : n = tankValveLine ∨ n = fillValve ∨ n = relief) : t.out.lines[n] = s.out.lines[n] := by
  refine Commanded.kept h fun b => ?_
  obtain rfl | rfl | rfl := hn <;> unfold StopCommand <;> revert b <;> decide

end Sys2Proof.Machine
end

section
/-! PROOF. A standing pump stop (R44, R132): what the interlock unit and the readers of the PTO state do under it before
the stop hold begins. -/

namespace Sys2Proof.Machine

/-- Entry 0 is in the list and sounds the alarm, under a present pump stop, and the PTO has left ENGAGED. -/
def Stopped (s : State) : Prop :=
  s.ilk.entries[(0 : Fin 32)] = ⟨.active, none, false⟩ ∧ (0 : Fin 32) ∈ s.ilk.active ∧ lineSource s 3 = true ∧
    s.ilk.cadence.isSome = true ∧ s.pto.state ≠ .engaged

/-- A standing stop stands, the lines take the event's commands alone, and the fill mode is left. -/
def Under (s t : State) : Prop := Stopped s → Stopped t ∧ Driven s t ∧ t.tank.fillMode = s.tank.fillMode

theorem Under.apply {s t : State} (h : Under s t) (hs : Stopped s) :
    Stopped t ∧ Driven s t ∧ t.tank.fillMode = s.tank.fillMode := h hs

theorem Under.refl (s : State) : Under s s := fun h => ⟨h, .refl s, rfl⟩

theorem Under.trans {s t u : State} (h : Under s t) (k : Under t u) : Under s u := fun hs => by
  obtain ⟨ht, hd, hf⟩ := h hs
  obtain ⟨hu, kd, kf⟩ := k ht
  exact ⟨hu, hd.trans kd, kf.trans hf⟩

/-- A step that leaves the lines, entry 0 in the list and the alarm. -/
theorem Under.of_out {s t : State} (ho : t.out = s.out)
    (he : t.ilk.entries[(0 : Fin 32)] = s.ilk.entries[(0 : Fin 32)])
    (ha : (0 : Fin 32) ∈ s.ilk.active → (0 : Fin 32) ∈ t.ilk.active) (hc : t.ilk.cadence = s.ilk.cadence)
    (hd : t.disc = s.disc) (hp : t.pto = s.pto) (hf : t.tank.fillMode = s.tank.fillMode) : Under s t := by
  rintro ⟨h1, h2, h3, h4, h5⟩
  exact ⟨⟨he.trans h1, ha h2, by rwa [lineSource, hd], by rwa [hc], by rwa [hp]⟩, .of_out ho, hf⟩

/-- A step outside the lines, the interlock unit, the switches, the PTO context and the fill mode. -/
theorem Under.of_same {s t : State} (ho : t.out = s.out) (hi : t.ilk = s.ilk) (hd : t.disc = s.disc)
    (hp : t.pto = s.pto) (hf : t.tank.fillMode = s.tank.fillMode) : Under s t :=
  .of_out ho (by rw [hi]) (by rw [hi]; exact id) (by rw [hi]) hd hp hf

theorem raise_under (k : ReportKey) (s : State) : Under s (raise k s) := .of_same rfl rfl rfl rfl rfl

theorem command_under {n : Fin 10} {on : Bool} (h : StopCommand n on) (s : State) : Under s (command n on s) := by
  have hl := command_lineOnly n on s
  rintro ⟨h1, h2, h3, h4, h5⟩
  refine ⟨⟨?_, by rwa [hl.ilk], by rwa [lineSource, (Reacted.of_lineOnly hl).disc], by rwa [hl.ilk], by rwa [hl.pto]⟩,
    .command s h, by rw [hl.tank]⟩
  simp only [hl.ilk]
  exact h1

theorem rejudgeBounds_under (s : State) : Under s (rejudgeBounds s) := by
  have hi := rejudgeBounds_idled s
  exact .of_same hi.out hi.ilk hi.reacted.disc hi.pto (by rw [hi.tank])

/-! ## The interlock unit -/

/-- While entry 0 stands in the list the alarm sounds, and no judgment commands it (R51). -/
theorem Stopped.alarmJudge {s : State} (h : Stopped s) : alarmJudge s = s := by
  obtain ⟨h1, h2, -, h4, -⟩ := h
  have hs : sounding s = true := by
    refine List.any_eq_true.2 ⟨0, h2, ?_⟩
    have : s.ilk.entries[(0 : Fin 32)].silenced = false := by rw [h1]
    rw [this]
    rfl
  unfold Sys2Proof.Machine.alarmJudge
  rw [hs]
  cases hc : s.ilk.cadence
  · rw [hc] at h4
    cases h4
  · rfl

theorem interlockLines_under (s : State) : Under s (interlockLines s) :=
  (command_under (.inl rfl) s).trans (command_under (.inr (.inl rfl)) _)

theorem listChanged_under (before : ActionSet) (s : State) : Under s (listChanged before s) := by
  intro hs
  have h1 := interlockLines_under s
  have ha := (h1 hs).1.alarmJudge
  refine Under.trans h1 ?_ hs
  unfold listChanged
  rw [ha]
  dsimp only
  split
  · exact .refl _
  · exact rejudgeBounds_under _

theorem modEntry_under {n : Fin 32} (hn : n ≠ 0) (f : Entry → Entry) (s : State) : Under s (s.modEntry n f) :=
  .of_out rfl (State.modEntry_entry_other s (Ne.symm hn) f) id rfl rfl rfl rfl

/-- What joins and leaves of the other entries share. -/
theorem listMoved_under {n : Fin 32} (hn : n ≠ 0) (u : Entry) {f : List (Fin 32) → List (Fin 32)}
    (hf : ∀ l, (0 : Fin 32) ∈ l → (0 : Fin 32) ∈ f l) (before : ActionSet) (s : State) :
    Under s (listChanged before (raise (.lockout n)
      ((s.modEntry n fun _ => u).modIlk fun k => { k with active := f k.active }))) := by
  have h : Under (s.modEntry n fun _ => u) ((s.modEntry n fun _ => u).modIlk fun k => { k with active := f k.active }) :=
    .of_out rfl rfl (hf _) rfl rfl rfl rfl
  exact (modEntry_under hn _ s).trans (h.trans ((raise_under _ _).trans (listChanged_under _ _)))

theorem notify_under (x : Notice) (s : State) :
    Under s (s.modIlk fun k => { k with notices := k.notices ++ [x] }) := .of_out rfl rfl id rfl rfl rfl rfl

theorem join_under {n : Fin 32} (hn : n ≠ 0) (s : State) : Under s (join n s) := by
  have h := listMoved_under hn ⟨.active, none, false⟩ (f := (· ++ [n])) (fun l h => List.mem_append_left _ h)
    (actionsInForce s) s
  unfold join
  dsimp only
  split
  · exact h.trans (notify_under _ _)
  · exact h

theorem leave_under {n : Fin 32} (hn : n ≠ 0) (s : State) : Under s (leave n s) := by
  have h := listMoved_under hn ⟨.clear, none, false⟩ (f := List.filter (· != n))
    (fun l h => List.mem_filter.2 ⟨h, by simpa using Ne.symm hn⟩) (actionsInForce s) s
  unfold leave
  dsimp only
  rwa [if_neg hn]

/-- The stop that stands is judged without a move. -/
theorem Stopped.judge {s : State} (h : Stopped s) : judge 0 s = s := by
  obtain ⟨h1, -, h3, -⟩ := h
  have hs : s.ilk.entries[(0 : Fin 32)].state = .active := by rw [h1]
  unfold Sys2Proof.Machine.judge
  rw [effective_zero, h3, hs]

theorem judge_under (n : Fin 32) (s : State) : Under s (judge n s) := by
  by_cases hn : n = 0
  · subst hn
    intro h
    rw [h.judge]
    exact Under.refl s h
  · have hr : ∀ f, Under s (raise (.lockout n) (s.modEntry n f)) := fun f =>
      (modEntry_under hn f s).trans (raise_under _ _)
    unfold judge
    split
    · split
      · exact join_under hn s
      · exact modEntry_under hn _ s
    · exact modEntry_under hn _ s
    · split
      · exact hr _
      · exact leave_under hn s
    · exact hr _
    · exact .refl s

theorem judges_under : ∀ (l : List (Fin 32)) (s : State), Under s (l.foldl (fun s n => judge n s) s)
  | [], s => .refl s
  | n :: l, s => (judge_under n s).trans (judges_under l _)

theorem pumpReadyJudge_under (s : State) : Under s (pumpReadyJudge s) := by
  intro h
  have : (s.pto.state == .engaged && (s.ilk.mode == .pump || s.ilk.mode == .roll)) = false := by
    rw [beq_false_of_ne h.2.2.2.2, Bool.false_and]
  unfold pumpReadyJudge
  rw [this]
  exact command_under (.inr (.inr (.inr ⟨.inr (.inr (.inr rfl)), rfl⟩))) s h

theorem moveMode_under (m : Mode) (s : State) : Under s (moveMode m s) := by
  unfold moveMode
  split
  · exact .refl s
  · rw [setMode_eq]
    refine Under.trans ?_ (pumpReadyJudge_under _)
    refine Under.trans ?_ (rejudgeBounds_under _)
    refine Under.trans ?_ (raise_under _ _)
    refine Under.trans ?_ (interlockLines_under _)
    refine Under.trans ?_ (judges_under _ _)
    unfold modeBegun
    split <;> exact .of_out rfl rfl id rfl rfl rfl rfl

/-! ## The publication of the PTO state -/

theorem interlockOnPto_under (prev : PtoState) (s : State) : Under s (interlockOnPto prev s) := by
  rw [interlockOnPto_eq]
  refine Under.trans ?_ ((judge_under 1 _).trans ((judge_under 2 _).trans (judge_under 3 _)))
  split
  · exact .refl s
  · exact moveMode_under _ s

/-- The governor's answer leaves the lines and the tank monitor. -/
theorem governorOnPto_out (prev : PtoState) (s : State) :
    (governorOnPto prev s).out = s.out ∧ (governorOnPto prev s).tank = s.tank := by
  have ht : (transfer s).out = s.out ∧ (transfer s).tank = s.tank := by
    unfold transfer
    dsimp only
    split <;> exact ⟨rfl, rfl⟩
  have hd : (departOff s).out = s.out ∧ (departOff s).tank = s.tank := ht
  unfold governorOnPto
  split
  · split
    · exact hd
    · exact ⟨rfl, rfl⟩
  · split
    · exact hd
    · split <;> exact ⟨rfl, rfl⟩
  · split <;> exact ⟨rfl, rfl⟩
  · split <;> exact ⟨rfl, rfl⟩
  · exact ⟨rfl, rfl⟩
  · exact ⟨rfl, rfl⟩

theorem governorOnPto_under (prev : PtoState) (s : State) : Under s (governorOnPto prev s) := by
  have hd := governorOnPto_downstream prev s
  obtain ⟨ho, ht⟩ := governorOnPto_out prev s
  exact .of_same ho hd.ilk hd.reacted.disc hd.pto (by rw [ht])

theorem reconJudge_under (arrival : Bool) (s : State) : Under s (reconJudge arrival s) := by
  unfold reconJudge
  split
  · exact .of_same rfl rfl rfl rfl rfl
  · exact .of_same rfl rfl rfl rfl rfl
  · exact .refl s

theorem primerEnd_under (o : PrimerOutcome) (s : State) : Under s (primerEnd o s) := by
  unfold primerEnd
  split
  · refine Under.trans ?_ (raise_under _ _)
    refine Under.trans ?_ (command_under (.inr (.inr (.inr ⟨.inr (.inl rfl), rfl⟩))) _)
    exact .of_same rfl rfl rfl rfl rfl
  · exact .refl s

theorem tankOnPto_under (prev : PtoState) (s : State) : Under s (tankOnPto prev s) := by
  unfold tankOnPto
  dsimp only
  refine Under.trans ?_ (reconJudge_under _ _)
  split
  · exact .refl s
  · exact (command_under (.inr (.inr (.inr ⟨.inr (.inr (.inl rfl)), rfl⟩))) s).trans (primerEnd_under _ _)

theorem pulseOnPto_under (prev : PtoState) (s : State) : Under s (pulseOnPto prev s) := by
  unfold pulseOnPto
  split
  · exact .of_same rfl rfl rfl rfl rfl
  · exact .refl s

theorem arbiterOnPto_under (s : State) : Under s (arbiterOnPto s) := by
  unfold arbiterOnPto
  split
  · exact .of_same rfl rfl rfl rfl rfl
  · exact .refl s

theorem ptoPublish_under (prev : PtoState) (s : State) : Under s (ptoPublish prev s) := by
  unfold ptoPublish
  dsimp only
  refine Under.trans ?_ (arbiterOnPto_under _)
  refine Under.trans ?_ (pulseOnPto_under prev _)
  refine Under.trans ?_ (tankOnPto_under prev _)
  refine Under.trans ?_ (pumpReadyJudge_under _)
  refine Under.trans ?_ (governorOnPto_under prev _)
  exact (raise_under .pto s).trans (interlockOnPto_under prev _)

end Sys2Proof.Machine
end

section
/-! PROOF. DRIVE_EN in an event in which the mode does not become PUMP (R49): once an entry that joins has turned it off it
stays off, so that a line that ends as it was commanded has not moved. -/

namespace Sys2Proof.Machine

/-! ## What DRIVE_EN is commanded from -/

/-- The level R49 gives DRIVE_EN. -/
def permit (s : State) : Bool := s.ilk.mode != .pump && !inForce s (·.inhibitDrive)

theorem permit_congr {s t : State} (hm : t.ilk.mode = s.ilk.mode) (ha : t.ilk.active = s.ilk.active)
    (hs : t.store = s.store) : permit t = permit s := by
  simp only [permit, inForce, hm, ha, entryActions_of_store hs]

theorem permit_iff (s : State) : permit s = true ↔
    s.ilk.mode ≠ .pump ∧ ∀ n ∈ s.ilk.active, (entryActions s n).inhibitDrive = false := by
  simp [permit, inForce]

/-- A configurable entry in the list, ACTIVE on an effective source, inhibits the drive. -/
def Inhibited (s : State) : Prop := ∃ n : Fin 32, 16 ≤ n.val ∧ n ∈ s.ilk.active ∧
  (entryActions s n).inhibitDrive = true ∧ s.ilk.entries[n].state = .active ∧ effective s n = true

/-- Such an entry has turned DRIVE_EN off. -/
def Blocked (s : State) : Prop := Inhibited s ∧ s.out.lines[driveEn].commanded = false

theorem Inhibited.permit {s : State} (h : Inhibited s) : permit s = false := by
  obtain ⟨n, -, ha, hi, -⟩ := h
  rw [← Bool.not_eq_true, permit_iff]
  rintro ⟨-, h⟩
  rw [h n ha] at hi
  cases hi

/-- What a configurable entry's source reads (R34, R36). -/
theorem effective_configurable_congr {s t : State} {n : Fin 32} (hn : 16 ≤ n.val) (hd : t.disc = s.disc)
    (hs : t.store = s.store) (hm : t.ilk.mode = s.ilk.mode) : effective t n = effective s n := by
  have hp : ∀ u : State, sourcePresent u n = if h : 4 ≤ entrySource u n ∧ entrySource u n < 12
      then lineSource u ⟨entrySource u n, h.2⟩ else false := by
    intro u
    obtain ⟨k, hk⟩ := n
    obtain ⟨j, rfl⟩ : ∃ j, k = j + 16 := ⟨k - 16, by simp at hn; omega⟩
    rfl
  have hl : ∀ k, lineSource t k = lineSource s k := fun k => by rw [lineSource, hd]; rfl
  simp only [effective, hp, hl, entrySource_of_store hs, entryModes_of_store hs, hm]

theorem Inhibited.congr {s t : State} (h : Inhibited s) (hd : t.disc = s.disc) (hs : t.store = s.store)
    (hi : t.ilk = s.ilk) : Inhibited t := by
  obtain ⟨n, hn, ha, hact, he, hf⟩ := h
  refine ⟨n, hn, by rwa [hi], by rwa [entryActions_of_store hs], ?_, ?_⟩
  · simp only [hi]
    exact he
  · rwa [effective_configurable_congr hn hd hs (by rw [hi])]

/-! ## A step of the event -/

/-- DRIVE_EN stands under its permission, or an entry that has joined has turned it off; and one that is off so stays
off. -/
structure DriveStep (s t : State) : Prop where
  up : permit s = true → s.out.lines[driveEn].commanded = true →
    permit t = true ∧ t.out.lines[driveEn] = s.out.lines[driveEn] ∨ Blocked t
  stay : Blocked s → Blocked t

theorem DriveStep.trans {s t u : State} (h : DriveStep s t) (k : DriveStep t u) : DriveStep s u where
  up := fun hp hc => by
    obtain ⟨hp', hl⟩ | hb := h.up hp hc
    · obtain ⟨hp'', hl'⟩ | hb := k.up hp' (by rw [hl]; exact hc)
      · exact .inl ⟨hp'', hl'.trans hl⟩
      · exact .inr hb
    · exact .inr (k.stay hb)
  stay := fun hb => k.stay (h.stay hb)

theorem DriveStep.of_same {s t : State} (hl : t.out.lines[driveEn] = s.out.lines[driveEn]) (hi : t.ilk = s.ilk)
    (hd : t.disc = s.disc) (hs : t.store = s.store) : DriveStep s t where
  up := fun hp _ => .inl ⟨by rwa [permit_congr (by rw [hi]) (by rw [hi]) hs], hl⟩
  stay := fun ⟨hb, hc⟩ => ⟨hb.congr hd hs hi, by rwa [hl]⟩

theorem DriveStep.refl (s : State) : DriveStep s s := .of_same rfl rfl rfl rfl

theorem Downstream.driveStep {s t : State} (h : Downstream s t) : DriveStep s t :=
  .of_same (h.lines driveEn (by decide) (by decide) (by decide)) h.ilk h.reacted.disc h.reacted.store

/-- A change of the list commands DRIVE_EN as R49 has it. -/
theorem listChanged_drive (before : ActionSet) (s : State) :
    (listChanged before s).out.lines[driveEn] = (command driveEn (permit s) s).out.lines[driveEn] := by
  have ha : ∀ u : State, (alarmJudge u).out.lines[driveEn] = u.out.lines[driveEn] := by
    intro u
    unfold alarmJudge
    split
    · exact command_other (by decide) true (u.modIlk _)
    · exact command_other (by decide) false (u.modIlk _)
    · rfl
  have hi : (interlockLines s).out.lines[driveEn] = (command driveEn (permit s) s).out.lines[driveEn] :=
    command_other (by decide) _ _
  unfold listChanged
  dsimp only
  split
  · exact (ha _).trans hi
  · simp only [(rejudgeBounds_idled _).out]
    exact (ha _).trans hi

theorem command_line_self {n : Fin 10} {on : Bool} {s : State} (h : s.out.lines[n].commanded = on) :
    command n on s = s := by
  unfold command
  rw [if_pos h]

/-- What a join or a leave of an entry makes of DRIVE_EN. -/
theorem listMoved_drive (n : Fin 32) (u : Entry) (f : List (Fin 32) → List (Fin 32)) (before : ActionSet) (s : State)
    {t : State} (ht : t.out = (listChanged before (raise (.lockout n)
      ((s.modEntry n fun _ => u).modIlk fun k => { k with active := f k.active }))).out)
    (hm : t.ilk.mode = s.ilk.mode) (ha : t.ilk.active = f s.ilk.active) (hs : t.store = s.store) :
    t.out.lines[driveEn].commanded = permit t ∧
      (s.out.lines[driveEn].commanded = permit t → t.out.lines[driveEn] = s.out.lines[driveEn]) := by
  let w := raise (.lockout n) ((s.modEntry n fun _ => u).modIlk fun k => { k with active := f k.active })
  have hp : permit t = permit w := permit_congr hm ha hs
  have hl : t.out.lines[driveEn] = (command driveEn (permit w) w).out.lines[driveEn] := by
    simp only [ht]
    exact listChanged_drive before w
  rw [hl, hp]
  exact ⟨command_commanded _ _ _, fun h => by rw [command_line_self (s := w) h]; rfl⟩

theorem join_drive (n : Fin 32) (s : State) :
    (join n s).out.lines[driveEn].commanded = permit (join n s) ∧
      (s.out.lines[driveEn].commanded = permit (join n s) →
        (join n s).out.lines[driveEn] = s.out.lines[driveEn]) := by
  obtain ⟨c, hi⟩ := join_ilk n s
  refine listMoved_drive n ⟨.active, none, false⟩ (· ++ [n]) (actionsInForce s) s ?_ (by rw [hi]) (by rw [hi])
    (join_reacted n s).store
  unfold join
  dsimp only
  split <;> rfl

theorem leave_drive {n : Fin 32} (hn : n ≠ 0) (s : State) :
    (leave n s).out.lines[driveEn].commanded = permit (leave n s) ∧
      (s.out.lines[driveEn].commanded = permit (leave n s) →
        (leave n s).out.lines[driveEn] = s.out.lines[driveEn]) := by
  obtain ⟨c, hi⟩ := leave_ilk hn s
  refine listMoved_drive n ⟨.clear, none, false⟩ (List.filter (· != n)) (actionsInForce s) s ?_ (by rw [hi])
    (by rw [hi]) (leave_reacted n s).store
  unfold leave
  dsimp only
  rw [if_neg hn]

/-- Of the fixed entries entry 2 alone inhibits the drive (R34). -/
theorem inhibitDrive_fixed (s : State) {n : Fin 32} (hn : n.val < 16) :
    (entryActions s n).inhibitDrive = (n.val == 2) := by
  obtain ⟨k, hk⟩ := n
  have hk16 : k < 16 := hn
  interval_cases k <;> rfl

/-- A judgment under the permission: it stands, or a configurable entry has joined that inhibits the drive. -/
theorem judge_up (n : Fin 32) {s : State} (hp : permit s = true) (hc : s.out.lines[driveEn].commanded = true) :
    permit (judge n s) = true ∧ (judge n s).out.lines[driveEn] = s.out.lines[driveEn] ∨
      16 ≤ n.val ∧ Blocked (judge n s) := by
  have hmod : ∀ f, permit (s.modEntry n f) = true := fun f => (permit_congr rfl rfl rfl).trans hp
  obtain ⟨hm, hno⟩ := (permit_iff s).1 hp
  unfold judge
  split
  · rename_i hcl he
    split
    · rename_i hd
      obtain ⟨hj, hl⟩ := join_drive n s
      obtain ⟨c, hi⟩ := join_ilk n s
      have hr := join_reacted n s
      by_cases hpj : permit (join n s) = true
      · exact .inl ⟨hpj, hl (by rw [hpj]; exact hc)⟩
      · have hin : (entryActions s n).inhibitDrive = true := by
          by_contra hin
          refine hpj ((permit_iff _).2 ⟨by rw [hi]; exact hm, fun k hk => ?_⟩)
          rw [entryActions_of_store hr.store]
          rw [hi] at hk
          obtain hk | hk := List.mem_append.1 hk
          · exact hno k hk
          · rw [List.mem_singleton.1 hk]
            simpa using hin
        have hn : 16 ≤ n.val := by
          by_contra hn
          rw [inhibitDrive_fixed s (by omega)] at hin
          obtain rfl : n = 2 := Fin.ext (by simpa using hin)
          cases hd
        refine .inr ⟨hn, ⟨n, hn, by rw [hi]; simp, by rwa [entryActions_of_store hr.store], ?_, ?_⟩, ?_⟩
        · rw [join_entry]
        · rwa [effective_configurable_congr hn hr.disc hr.store (by rw [hi])]
        · rw [hj]
          simpa using hpj
    · exact .inl ⟨hmod _, rfl⟩
  · exact .inl ⟨hmod _, rfl⟩
  · split
    · exact .inl ⟨hmod fun e => { e with state := .held }, rfl⟩
    · rename_i hla
      have hn := ne_zero_of_not_latches hla
      obtain ⟨hj, hl⟩ := leave_drive hn s
      obtain ⟨c, hi⟩ := leave_ilk hn s
      have hpl : permit (leave n s) = true := by
        refine (permit_iff _).2 ⟨by rw [hi]; exact hm, fun k hk => ?_⟩
        rw [entryActions_of_store (leave_reacted n s).store]
        rw [hi] at hk
        exact hno k (List.mem_of_mem_filter hk)
      exact .inl ⟨hpl, hl (by rw [hpl]; exact hc)⟩
  · exact .inl ⟨hmod fun e => { e with state := .active }, rfl⟩
  · exact .inl ⟨hp, rfl⟩

/-- A judgment leaves DRIVE_EN, or commands it as R49 has it. -/
theorem judge_drive (n : Fin 32) (s : State) :
    (judge n s).out.lines[driveEn] = s.out.lines[driveEn] ∨
      (judge n s).out.lines[driveEn].commanded = permit (judge n s) := by
  unfold judge
  split
  · split
    · exact .inr (join_drive n s).1
    · exact .inl rfl
  · exact .inl rfl
  · split
    · exact .inl rfl
    · exact .inr (leave_drive (ne_zero_of_not_latches ‹_›) s).1
  · exact .inl rfl
  · exact .inl rfl

/-- An inhibiting entry stands through every judgment in its mode. -/
theorem Inhibited.judge {s : State} (h : Inhibited s) (n : Fin 32) : Inhibited (judge n s) := by
  obtain ⟨k, hk, ha, hi, he, hf⟩ := h
  have hj := judge_judged n s
  by_cases hkn : k = n
  · subst hkn
    have : Sys2Proof.Machine.judge k s = s := by
      unfold Sys2Proof.Machine.judge
      rw [he, hf]
    rw [this]
    exact ⟨k, hk, ha, hi, he, hf⟩
  · refine ⟨k, hk, (hj.listed k hkn).2 ha, by rwa [entryActions_of_store hj.reacted.store], ?_, ?_⟩
    · rw [hj.entries k hkn]
      exact he
    · rwa [effective_configurable_congr hk hj.reacted.disc hj.reacted.store hj.mode]

theorem judge_driveStep (n : Fin 32) (s : State) : DriveStep s (judge n s) where
  up := fun hp hc => (judge_up n hp hc).imp_right And.right
  stay := fun ⟨hi, hc⟩ => by
    refine ⟨hi.judge n, ?_⟩
    obtain h | h := judge_drive n s <;> rw [h]
    · exact hc
    · exact (hi.judge n).permit

theorem judges_driveStep : ∀ (l : List (Fin 32)) (s : State), DriveStep s (l.foldl (fun s n => judge n s) s)
  | [], s => .refl s
  | n :: l, s => (judge_driveStep n s).trans (judges_driveStep l _)

/-! ## The publications of the event -/

/-- An operation on the lines of a state whose interlock unit stands: DRIVE_EN is recomputed or left. -/
theorem interlockLines_driveStep (s : State) : DriveStep s (interlockLines s) := by
  have hr := (interlockLines_judged (N := fun _ => False) s).reacted
  have hk := interlockLines_ilk s
  have hl : (interlockLines s).out.lines[driveEn] = (command driveEn (permit s) s).out.lines[driveEn] :=
    command_other (by decide) _ _
  refine ⟨fun hp hc => .inl ⟨?_, ?_⟩, fun ⟨hi, hc⟩ => ⟨hi.congr hr.disc hr.store hk, ?_⟩⟩
  · rwa [permit_congr (by rw [hk]) (by rw [hk]) hr.store]
  · rw [hl, command_line_self (by rw [hp]; exact hc)]
  · rw [hl, command_commanded]
    exact hi.permit

/-- A change to a mode other than PUMP. -/
theorem setMode_up {m : Mode} (hm : m ≠ .pump) {s : State} (hp : permit s = true)
    (hc : s.out.lines[driveEn].commanded = true) :
    permit (setMode m s) = true ∧ (setMode m s).out.lines[driveEn] = s.out.lines[driveEn] ∨ Blocked (setMode m s) := by
  have hb : modeBegun m s = s.modIlk fun k => { k with mode := m } := if_neg hm
  have hpb : permit (modeBegun m s) = true := by
    rw [hb, permit_iff]
    exact ⟨hm, ((permit_iff s).1 hp).2⟩
  have hj : DriveStep (modeBegun m s) (judgeAll (modeBegun m s)) := judges_driveStep allEntries (modeBegun m s)
  have hl : (modeBegun m s).out.lines[driveEn] = s.out.lines[driveEn] := by rw [hb]; rfl
  have hraise : ∀ u : State, DriveStep u (raise .mode u) := fun u => .of_same rfl rfl rfl rfl
  have hbounds : ∀ u : State, DriveStep u (rejudgeBounds u) := fun u => by
    have hi := rejudgeBounds_idled u
    exact .of_same (by simp only [hi.out]) hi.ilk hi.reacted.disc hi.reacted.store
  have hready : ∀ u : State, DriveStep u (pumpReadyJudge u) := fun u => (pumpReadyJudge_downstream u).driveStep
  have hset : DriveStep (modeBegun m s) (setMode m s) := by
    rw [setMode_eq]
    exact hj.trans ((interlockLines_driveStep _).trans ((hraise _).trans ((hbounds _).trans (hready _))))
  rw [← hl]
  exact hset.up hpb (by rw [hl]; exact hc)

theorem ptoPublish_downstream (prev : PtoState) (s : State) :
    Downstream (interlockOnPto prev (raise .pto s)) (ptoPublish prev s) :=
  (governorOnPto_downstream prev _).trans ((pumpReadyJudge_downstream _).trans ((tankOnPto_downstream prev _).trans
    ((pulseOnPto_downstream prev _).trans (arbiterOnPto_downstream _))))

/-- Entries 1 to 3 inhibit the drive in no judgment. -/
theorem judgePto_up {s : State} (hp : permit s = true) (hc : s.out.lines[driveEn].commanded = true) :
    permit (judge 3 (judge 2 (judge 1 s))) = true ∧
      (judge 3 (judge 2 (judge 1 s))).out.lines[driveEn] = s.out.lines[driveEn] := by
  have step : ∀ (n : Fin 32) (u : State), n.val < 16 → permit u = true →
      u.out.lines[driveEn] = s.out.lines[driveEn] →
      permit (judge n u) = true ∧ (judge n u).out.lines[driveEn] = s.out.lines[driveEn] := by
    intro n u hn hu hl
    obtain ⟨h1, h2⟩ | ⟨h, -⟩ := judge_up n hu (by rw [hl]; exact hc)
    · exact ⟨h1, h2.trans hl⟩
    · omega
  obtain ⟨h1, l1⟩ := step 1 s (by decide) hp rfl
  obtain ⟨h2, l2⟩ := step 2 _ (by decide) h1 l1
  exact step 3 _ (by decide) h2 l2

theorem judgePto_driveStep (s : State) : DriveStep s (judge 3 (judge 2 (judge 1 s))) :=
  (judge_driveStep 1 s).trans ((judge_driveStep 2 _).trans (judge_driveStep 3 _))

theorem Downstream.permit {s t : State} (h : Downstream s t) : permit t = permit s :=
  permit_congr (by rw [h.ilk]) (by rw [h.ilk]) h.reacted.store

theorem Downstream.drive {s t : State} (h : Downstream s t) : t.out.lines[driveEn] = s.out.lines[driveEn] :=
  h.lines driveEn (by decide) (by decide) (by decide)

/-- A publication in which the mode does not become PUMP: DRIVE_EN has been turned off only where the mode has moved. -/
theorem ptoPublish_up {prev : PtoState} {s : State} (hm : modeAfter prev s ≠ .pump) (hp : permit s = true)
    (hc : s.out.lines[driveEn].commanded = true) :
    permit (ptoPublish prev s) = true ∧ (ptoPublish prev s).out.lines[driveEn] = s.out.lines[driveEn] ∨
      modeAfter prev s ≠ s.ilk.mode ∧ Blocked (ptoPublish prev s) := by
  have hd := ptoPublish_downstream prev s
  rw [hd.permit, hd.drive]
  have hpr : permit (raise .pto s) = true := hp
  suffices h : permit (interlockOnPto prev (raise .pto s)) = true ∧
      (interlockOnPto prev (raise .pto s)).out.lines[driveEn] = s.out.lines[driveEn] ∨
        modeAfter prev s ≠ s.ilk.mode ∧ Blocked (interlockOnPto prev (raise .pto s)) from
    h.imp_right (And.imp_right hd.driveStep.stay)
  rw [interlockOnPto_eq]
  by_cases hstay : modeAfter prev s = s.ilk.mode
  · have : (if (raise .pto s).pto.state = prev then raise .pto s
        else moveMode (ptoMode (raise .pto s)) (raise .pto s)) = raise .pto s := by
      split
      · rfl
      · rename_i hprev
        rw [modeAfter, if_neg (show ¬ s.pto.state = prev from hprev)] at hstay
        exact if_pos hstay
    rw [this]
    exact .inl (judgePto_up hpr hc)
  · have hprev : ¬ s.pto.state = prev := fun h => hstay (if_pos h)
    have hmode : modeAfter prev s = ptoMode s := if_neg hprev
    have : (if (raise .pto s).pto.state = prev then raise .pto s
        else moveMode (ptoMode (raise .pto s)) (raise .pto s)) = setMode (ptoMode s) (raise .pto s) := by
      rw [if_neg (show ¬ (raise .pto s).pto.state = prev from hprev)]
      exact if_neg (hmode ▸ hstay)
    rw [this]
    obtain ⟨h1, l1⟩ | hb := setMode_up (m := ptoMode s) (hmode ▸ hm) hpr hc
    · obtain ⟨h2, l2⟩ := judgePto_up h1 (by rw [l1]; exact hc)
      exact .inl ⟨h2, l2.trans l1⟩
    · exact .inr ⟨hstay, (judgePto_driveStep _).stay hb⟩

/-- A publication that does not move the mode keeps DRIVE_EN off. -/
theorem ptoPublish_blocked {prev : PtoState} {s : State} (hm : modeAfter prev s = s.ilk.mode) (hb : Blocked s) :
    Blocked (ptoPublish prev s) := by
  have hr : Blocked (raise .pto s) := (DriveStep.of_same (t := raise .pto s) rfl rfl rfl rfl).stay hb
  have : (if (raise .pto s).pto.state = prev then raise .pto s
      else moveMode (ptoMode (raise .pto s)) (raise .pto s)) = raise .pto s := by
    split
    · rfl
    · rename_i hprev
      rw [modeAfter, if_neg (show ¬ s.pto.state = prev from hprev)] at hm
      exact if_pos hm
  refine (ptoPublish_downstream prev s).driveStep.stay ?_
  rw [interlockOnPto_eq, this]
  exact (judgePto_driveStep _).stay hr

/-- The mode does not become PUMP where the PTO leaves for DISENGAGED or RELEASING, and it moves in RELEASING to PARKED
under the brake alone (R26, R28). -/
theorem modeAfter_leaving {prev : PtoState} {s : State} (hm : s.ilk.mode ≠ .pump)
    (hp : s.pto.state = .disengaged ∨ s.pto.state = .releasing) :
    modeAfter prev s ≠ .pump ∧
      (s.pto.state = .releasing → modeAfter prev s ≠ s.ilk.mode →
        modeAfter prev s = .parked ∧ s.disc[0].active = true) := by
  unfold modeAfter ptoMode modeJudged
  by_cases hprev : s.pto.state = prev
  · simp [hprev, hm]
  · obtain hp | hp := hp <;> cases hk : s.ilk.mode <;> cases hd : s.disc[0].active <;> cases hr : s.road.standstill <;>
      simp_all

/-! ## The PTO's ways out -/

/-- PTO_SOL and the context move nothing that DRIVE_EN reads. -/
theorem Poised.driveStep {s t : State} {after : Pto} (h : Poised s after t) : DriveStep s t :=
  .of_same (h.lines driveEn (by decide)) h.ilk h.reacted.disc h.reacted.store

theorem Poised.permit {s t : State} {after : Pto} (h : Poised s after t) : permit t = permit s :=
  permit_congr (by rw [h.ilk]) (by rw [h.ilk]) h.reacted.store

theorem solenoidOff_driven (f : Pto → Pto) (s : State) : Driven s (command ptoSol false (s.modPto f)) := by
  have h : Driven s (s.modPto f) := .of_out rfl
  exact h.trans (.command _ (.inr (.inr (.inr ⟨.inl rfl, rfl⟩))))

/-- The entry into DISENGAGED publishes a poised context. -/
theorem enterDisengaged_poised (cause : Option AbandonCause) (s : State) :
    ∃ t, Poised s (ptoDisengaged cause) t ∧ enterDisengaged cause s = ptoPublish s.pto.state t ∧
      Driven s t ∧ t.tank = s.tank :=
  ⟨_, Poised.of_command (fun p => { p.noTimers with
    state := .disengaged, stage := none, reason := none, abandon := cause, slip := false }) s rfl, rfl,
    solenoidOff_driven _ s, (command_lineOnly _ _ _).tank⟩

/-- The context of the DROP stage (R67). -/
def ptoDropping (s : State) : Pto :=
  ⟨.releasing, some .drop, none, none, none, none, none, some (ms (s.cfgN 79)), false, none⟩

/-- The entry into DROP publishes a poised context, and then perhaps DISENGAGED. -/
theorem enterDrop_poised (s : State) : ∃ t, Poised s (ptoDropping s) t ∧
    (enterDrop s = if (ptoPublish s.pto.state t).disc[2].active = true then ptoPublish s.pto.state t
      else enterDisengaged none (ptoPublish s.pto.state t)) ∧ Driven s t ∧ t.tank = s.tank :=
  ⟨_, Poised.of_command (fun p => { p.noTimers with
    state := .releasing, stage := some .drop, reason := none, abandon := none, slip := false
    stageTimer := some (ms (s.cfgN 79)) }) s rfl, rfl, solenoidOff_driven _ s, (command_lineOnly _ _ _).tank⟩

theorem enterDisengaged_up (cause : Option AbandonCause) {s : State} (hp : permit s = true)
    (hc : s.out.lines[driveEn].commanded = true) :
    permit (enterDisengaged cause s) = true ∧ (enterDisengaged cause s).out.lines[driveEn] = s.out.lines[driveEn] ∨
      Blocked (enterDisengaged cause s) := by
  obtain ⟨t, hpo, he, -⟩ := enterDisengaged_poised cause s
  have hl := hpo.lines driveEn (by decide)
  have hm := (modeAfter_leaving (prev := s.pto.state) (s := t) (by rw [hpo.ilk]; exact ((permit_iff s).1 hp).1)
    (.inl (by rw [hpo.pto]; rfl))).1
  have h := ptoPublish_up hm (hpo.permit.trans hp) (by rw [hl]; exact hc)
  rw [hl] at h
  rw [he]
  exact h.imp_right And.right

theorem enterDisengaged_blocked (cause : Option AbandonCause) {s : State} (hb : Blocked s) (hk : Braked s) :
    Blocked (enterDisengaged cause s) := by
  obtain ⟨t, hpo, he, -⟩ := enterDisengaged_poised cause s
  obtain ⟨hm, hd⟩ := hk
  rw [he]
  refine ptoPublish_blocked ?_ (hpo.driveStep.stay hb)
  simp [modeAfter, ptoMode, modeJudged, hpo.ilk, hpo.reacted.disc, hpo.pto, hm, hd, ptoDisengaged]

/-- A drop: DRIVE_EN stands under its permission, or an entry that has joined has turned it off. -/
theorem enterDrop_up {s : State} (hp : permit s = true) (hc : s.out.lines[driveEn].commanded = true) :
    permit (enterDrop s) = true ∧ (enterDrop s).out.lines[driveEn] = s.out.lines[driveEn] ∨ Blocked (enterDrop s) := by
  obtain ⟨t, hpo, he, -⟩ := enterDrop_poised s
  have hl := hpo.lines driveEn (by decide)
  obtain ⟨hm, hpark⟩ := modeAfter_leaving (prev := s.pto.state) (s := t)
    (by rw [hpo.ilk]; exact ((permit_iff s).1 hp).1) (.inr (by rw [hpo.pto]; rfl))
  have hpub := ptoPublish_published s.pto.state t
  have h := ptoPublish_up hm (hpo.permit.trans hp) (by rw [hl]; exact hc)
  rw [hl] at h
  rw [he]
  split
  · exact h.imp_right And.right
  · obtain ⟨h1, l1⟩ | ⟨hmoved, hb⟩ := h
    · have := enterDisengaged_up none h1 (by rw [l1]; exact hc)
      rwa [l1] at this
    · obtain ⟨hmp, hact⟩ := hpark (by rw [hpo.pto]; rfl) hmoved
      exact .inr (enterDisengaged_blocked none hb ⟨hpub.moved.1.trans hmp, by rw [hpub.reacted.disc]; exact hact⟩)

end Sys2Proof.Machine
end

section
/-! PROOF. What a pump stop makes of the PTO before the stop hold begins (R44, R59, R68). -/

namespace Sys2Proof.Machine

/-- Entry 0 is in the list and sounds the alarm, under a present pump stop. -/
def Standing (s : State) : Prop :=
  s.ilk.entries[(0 : Fin 32)] = ⟨.active, none, false⟩ ∧ (0 : Fin 32) ∈ s.ilk.active ∧ lineSource s 3 = true ∧
    s.ilk.cadence.isSome = true

theorem Standing.noStop {s : State} (h : Standing s) : NoStop s := by
  intro hc
  rw [h.1] at hc
  cases hc

theorem Stopped.standing {s : State} (h : Stopped s) : Standing s := by
  obtain ⟨h1, h2, h3, h4, -⟩ := h
  exact ⟨h1, h2, h3, h4⟩

/-- What a pump stop makes of the PTO context (R59, R68). -/
def ptoStopped (s : State) : Pto :=
  if s.pto.state = .qualify then ptoDisengaged (some .lockout)
  else if s.pto.state = .engaging ∨ s.pto.state = .engaged ∨ s.pto.stage = some .spinDown then ptoDropped s
  else s.pto

/-- `t` is `s` after the PTO controller has answered a standing stop. -/
structure Withdrawn (s t : State) : Prop where
  reacted : Reacted s t
  pto : t.pto = ptoStopped s
  hold : t.out.hold = s.out.hold
  gov : t.gov.state ≠ .off ↔ t.pto.state = .releasing
  deaf : ∀ x ∈ t.ilk.notices, Deaf t.pto x
  standing : Standing t
  driven : Driven s t
  fill : t.tank.fillMode = s.tank.fillMode
  drive : permit s = true → s.out.lines[driveEn].commanded = true →
    permit t = true ∧ t.out.lines[driveEn] = s.out.lines[driveEn] ∨ Blocked t

/-- A publication out of a poised context, under a standing stop. -/
theorem Poised.stopped {s t : State} {after : Pto} (h : Poised s after t) (hs : Standing s)
    (ha : after.state ≠ .engaged) : Stopped t := by
  obtain ⟨h1, h2, h3, h4⟩ := hs
  refine ⟨?_, by rwa [h.ilk], by rwa [lineSource, h.reacted.disc], by rwa [h.ilk], by rwa [h.pto]⟩
  simp only [h.ilk]
  exact h1

theorem enterDisengaged_standing (cause : Option AbandonCause) {s : State} (hs : Standing s) :
    Stopped (enterDisengaged cause s) ∧ Driven s (enterDisengaged cause s) ∧
      (enterDisengaged cause s).tank.fillMode = s.tank.fillMode := by
  obtain ⟨t, hpo, he, hd, ht⟩ := enterDisengaged_poised cause s
  obtain ⟨h1, h2, h3⟩ := (ptoPublish_under s.pto.state t).apply (hpo.stopped hs (by simp [ptoDisengaged]))
  rw [he]
  exact ⟨h1, hd.trans h2, by rw [h3, ht]⟩

theorem enterDrop_standing {s : State} (hs : Standing s) :
    Stopped (enterDrop s) ∧ Driven s (enterDrop s) ∧ (enterDrop s).tank.fillMode = s.tank.fillMode := by
  obtain ⟨t, hpo, he, hd, ht⟩ := enterDrop_poised s
  obtain ⟨h1, h2, h3⟩ := (ptoPublish_under s.pto.state t).apply (hpo.stopped hs (by simp [ptoDropping]))
  rw [he]
  split
  · exact ⟨h1, hd.trans h2, by rw [h3, ht]⟩
  · obtain ⟨k1, k2, k3⟩ := enterDisengaged_standing none h1.standing
    exact ⟨k1, (hd.trans h2).trans k2, by rw [k3, h3, ht]⟩

theorem ptoDropped_state (s : State) : (ptoDropped s).state = .releasing ∨ (ptoDropped s).state = .disengaged := by
  unfold ptoDropped
  split
  · exact .inl rfl
  · exact .inr rfl

/-- An entry that a standing stop has caused. -/
theorem Entered.withdrawn {s t : State} {after : Pto} (h : Entered s after t) (hp : after = ptoStopped s)
    (ha : after.state = .disengaged ∧ s.pto.state ≠ .disengaged ∨
      after.state = .releasing) (hn : NoticesTaken s) (hg : GovernorStateLaw s) (hs : Standing s)
    (hu : Stopped t ∧ Driven s t ∧ t.tank.fillMode = s.tank.fillMode)
    (hd : permit s = true → s.out.lines[driveEn].commanded = true →
      permit t = true ∧ t.out.lines[driveEn] = s.out.lines[driveEn] ∨ Blocked t) : Withdrawn s t where
  reacted := h.reacted
  pto := h.pto.trans hp
  hold := h.hold
  gov := by
    have hgs := h.gov hg
    rw [h.pto, hgs]
    obtain ⟨ha, hne⟩ | ha := ha
    · simp [ha, Ne.symm hne]
    · rw [ha]
      split
      · exact iff_of_true (hg.2 (.inr (Eq.symm ‹_›))) rfl
      · simp
  deaf := by
    refine h.deaf hs.noStop hn ?_ ?_
    · obtain ⟨ha, -⟩ | ha := ha <;> rw [ha] <;> decide
    · intro he
      obtain ⟨ha, -⟩ | ha := ha <;> cases he.symm.trans ha
  standing := hu.1.standing
  driven := hu.2.1
  fill := hu.2.2
  drive := hd

/-- The PTO controller's answer to a pump stop, in each of its states (R59, R68). -/
theorem ptoOnNotice_withdrawn {s : State} {x : Notice} (hx : x.entry = 0) (hs : Standing s) (hn : NoticesTaken s)
    (hp : PtoLaw s) (hg : GovernorStateLaw s) : Withdrawn s (ptoOnNotice x s) := by
  have drop : s.pto.state ≠ .disengaged → ptoDropped s = ptoStopped s → Withdrawn s (enterDrop s) := by
    intro hne he
    refine (enterDrop_entered hne).withdrawn he ?_ hn hg hs (enterDrop_standing hs) enterDrop_up
    exact (ptoDropped_state s).symm.imp_left fun h => ⟨h, hne⟩
  have stay : s.pto.state = .disengaged ∨ s.pto.state = .fault ∨ s.pto.state = .releasing →
      s.pto = ptoStopped s → Withdrawn s s := by
    intro hst he
    refine ⟨.refl s, he, rfl, ?_, by rw [hn]; simp, hs, .refl s, rfl, fun h _ => .inl ⟨h, rfl⟩⟩
    refine hg.trans ?_
    obtain h | h | h := hst <;> simp [h]
  obtain ⟨hstage, -⟩ := hp
  unfold ptoOnNotice
  split
  · rename_i hq
    exact (enterDisengaged_entered (some .lockout) s).withdrawn (by simp [ptoStopped, hq])
      (.inl ⟨rfl, by rw [hq]; decide⟩) hn hg hs (enterDisengaged_standing _ hs) (enterDisengaged_up _)
  · rename_i he
    rw [if_pos hx]
    exact drop (by rw [he]; decide) (by simp [ptoStopped, he])
  · rename_i he
    rw [if_pos hx]
    exact drop (by rw [he]; decide) (by simp [ptoStopped, he])
  · rename_i hr hsp
    rw [if_pos hx]
    exact drop (by rw [hr]; decide) (by simp [ptoStopped, hr, hsp])
  · rename_i hq he hk hsp
    have hns : s.pto.stage ≠ some .spinDown := by
      intro h
      exact hsp (hstage.1 (by rw [h]; rfl)) h
    refine stay ?_ ?_
    rotate_left
    · rw [ptoStopped, if_neg hq, if_neg]
      rintro (h | h | h)
      · exact he h
      · exact hk h
      · exact hns h
    cases hst : s.pto.state <;> simp_all

end Sys2Proof.Machine
end

section
/-! PROOF. The beginning of a stop hold (R132): the lines, the duty, the primer and FILL_VALVE. -/

namespace Sys2Proof.Machine

/-! ## Operations over every line -/

/-- `t` is `s` but for the output unit. -/
def OutOnly (s t : State) : Prop := t = { s with out := t.out }

theorem OutOnly.trans {s t u : State} (h : OutOnly s t) (k : OutOnly t u) : OutOnly s u := by
  rw [OutOnly] at *
  rw [k, h]

theorem OutOnly.of_lineOnly {n : Fin 10} {s t : State} (h : LineOnly n s t) : OutOnly s t := by
  rw [LineOnly] at h
  rw [OutOnly, h]
  rfl

theorem OutOnly.refl (s : State) : OutOnly s s := rfl
theorem OutOnly.tank {s t : State} (h : OutOnly s t) : t.tank = s.tank := by rw [h]
theorem OutOnly.store {s t : State} (h : OutOnly s t) : t.store = s.store := by rw [h]
theorem OutOnly.gov {s t : State} (h : OutOnly s t) : t.gov = s.gov := by rw [h]
theorem OutOnly.analog {s t : State} (h : OutOnly s t) : t.analog = s.analog := by rw [h]

section LineByLine
variable {f : State → Fin 10 → State} (hf : ∀ s n, LineOnly n s (f s n))
include hf

theorem foldl_lines_outOnly : ∀ (l : List (Fin 10)) (s : State),
    OutOnly s (l.foldl f s) ∧ (l.foldl f s).out.hold = s.out.hold
  | [], s => ⟨.refl s, rfl⟩
  | n :: l, s => by
    obtain ⟨h1, h2⟩ := foldl_lines_outOnly l (f s n)
    exact ⟨(OutOnly.of_lineOnly (hf s n)).trans h1, h2.trans (hf s n).hold⟩

theorem foldl_lines_other {n : Fin 10} : ∀ (l : List (Fin 10)) (s : State), n ∉ l →
    (l.foldl f s).out.lines[n] = s.out.lines[n]
  | [], _, _ => rfl
  | m :: l, s, hn => by
    rw [List.mem_cons, not_or] at hn
    exact (foldl_lines_other l (f s m) hn.2).trans ((hf s m).other hn.1)

/-- Operations that take a line each, over a list: each line takes its own, from where it stood. -/
theorem foldl_lines_line {n : Fin 10} : ∀ (l : List (Fin 10)) (s : State), l.Nodup → n ∈ l →
    ∃ u, OutOnly s u ∧ u.out.hold = s.out.hold ∧ u.out.lines[n] = s.out.lines[n] ∧
      (l.foldl f s).out.lines[n] = (f u n).out.lines[n]
  | [], _, _, hn => by cases hn
  | m :: l, s, hl, hn => by
    obtain ⟨hm, hl⟩ := List.nodup_cons.1 hl
    by_cases hmn : n = m
    · subst hmn
      exact ⟨s, .refl s, rfl, rfl, foldl_lines_other hf l _ hm⟩
    · obtain ⟨u, h1, h2, h3, h4⟩ := foldl_lines_line l (f s m) hl ((List.mem_cons.1 hn).resolve_left hmn)
      exact ⟨u, (OutOnly.of_lineOnly (hf s m)).trans h1, h2.trans (hf s m).hold, h3.trans ((hf s m).other hmn), h4⟩

/-- Over all lines. -/
theorem foldl_allLines_line (n : Fin 10) (s : State) : ∃ u, OutOnly s u ∧ u.out.hold = s.out.hold ∧
    u.out.lines[n] = s.out.lines[n] ∧ (allLines.foldl f s).out.lines[n] = (f u n).out.lines[n] :=
  foldl_lines_line hf allLines s (by decide) (by revert n; decide)

end LineByLine

/-! ## A line in a stop hold -/

/-- The level R129 gives a line in a stop hold. -/
def heldLevel (n : Fin 10) (s : State) : Bool :=
  !(n == fillValve && s.tank.water.cls == .full) && holdLevel s.out.lines[n]

/-- A line of a stop hold stands at its level, and has a kept level where it is KEEP. -/
def Held (n : Fin 10) (s : State) : Prop :=
  s.out.hold = true ∧ s.out.lines[n].effective = heldLevel n s ∧
    (s.out.lines[n].stopState = .keep → s.out.lines[n].kept.isSome = true)

theorem holdLevel_congr {l k : OutputLine} (h1 : k.stopState = l.stopState) (h2 : k.kept = l.kept) :
    holdLevel k = holdLevel l := by
  rw [holdLevel, holdLevel, h1, h2]

/-- The output unit's own reading of a stop-state agrees where a KEEP line has its kept level. -/
theorem stopLevel_eq {l : OutputLine} (hk : l.stopState = .keep → l.kept.isSome = true) :
    (match l.stopState with
      | .off => false
      | .on => true
      | .keep => l.kept.getD l.effective) = holdLevel l := by
  obtain ⟨_, _, stop, kept, _⟩ := l
  cases stop with
  | off => rfl
  | on => rfl
  | keep =>
    cases kept with
    | none => cases hk rfl
    | some b => cases b <;> rfl

theorem targetLevel_held {n : Fin 10} {s : State} (hh : s.out.hold = true)
    (hk : s.out.lines[n].stopState = .keep → s.out.lines[n].kept.isSome = true) :
    targetLevel s n = heldLevel n s := by
  unfold targetLevel heldLevel
  dsimp only
  by_cases hf : n = fillValve ∧ s.tank.water.cls = .full
  · rw [if_pos hf, hf.2]
    simp [hf.1]
  · have hb : (n == fillValve && s.tank.water.cls == .full) = false := by simpa using hf
    rw [if_neg hf, if_pos hh, hb, Bool.not_false, Bool.true_and]
    exact stopLevel_eq hk

theorem drive_hold_fields (n : Fin 10) (s : State) :
    (drive n s).out.lines[n].stopState = s.out.lines[n].stopState ∧
      (drive n s).out.lines[n].kept = s.out.lines[n].kept := by
  unfold drive
  dsimp only
  split
  · exact ⟨rfl, rfl⟩
  · rw [levelChanged_line]
    simp [State.modLine, State.modOut]

theorem drive_held {n : Fin 10} {s : State} (hh : s.out.hold = true)
    (hk : s.out.lines[n].stopState = .keep → s.out.lines[n].kept.isSome = true) : Held n (drive n s) := by
  obtain ⟨h1, h2⟩ := drive_hold_fields n s
  have hl := drive_lineOnly n s
  refine ⟨hl.hold.trans hh, ?_, by rwa [h1, h2]⟩
  rw [drive_effective, targetLevel_held hh hk]
  rw [heldLevel, heldLevel, hl.tank, holdLevel_congr h1 h2]

/-- In a stop hold a command moves neither a line's stop-state nor, but for O1's, its kept level. -/
theorem command_held {n : Fin 10} {on : Bool} {s : State} (h : Held n s) (hn : n ≠ driveEn) :
    Held n (command n on s) ∧ (command n on s).out.lines[n].stopState = s.out.lines[n].stopState ∧
      (command n on s).out.lines[n].kept = s.out.lines[n].kept := by
  obtain ⟨hh, he, hk⟩ := h
  by_cases hc : s.out.lines[n].commanded = on
  · rw [command_line_self hc]
    exact ⟨⟨hh, he, hk⟩, rfl, rfl⟩
  · obtain ⟨-, hstop, -, -, hkept⟩ := commandTaken_fields n on s.out.lines[n]
    have h1 : (s.modLine n (commandTaken n on)).out.lines[n].stopState = s.out.lines[n].stopState := by
      rw [State.modLine_line_self]
      exact hstop
    have h2 : (s.modLine n (commandTaken n on)).out.lines[n].kept = s.out.lines[n].kept := by
      rw [State.modLine_line_self]
      exact hkept hn
    obtain ⟨h3, h4⟩ := drive_hold_fields n (s.modLine n (commandTaken n on))
    have hd := drive_held (s := s.modLine n (commandTaken n on)) (n := n) hh (by rwa [h1, h2])
    have hr : retryDue (drive n (s.modLine n (commandTaken n on))) n = false := by
      unfold retryDue
      simp [hd.1]
    rw [command_eq hc, beginRetry, if_neg (by rw [hr]; decide)]
    exact ⟨hd, h3.trans h1, h4.trans h2⟩

/-- A command of another line in a stop hold. -/
theorem Held.command_other {n m : Fin 10} {on : Bool} {s : State} (h : Held n s) (hnm : n ≠ m) :
    Held n (command m on s) := by
  have hl := command_lineOnly m on s
  rw [Held, heldLevel, hl.other hnm, hl.hold, hl.tank]
  exact h

/-! ## The lines as a stop hold begins -/

/-- The stop-state that a line takes into use (R132). -/
def stopSetting (n : Fin 10) (s : State) : StopState := stopStateOf (s.cfg (210 + n.val))

/-- The kept level that a line takes (R132). -/
def keptTaken (n : Fin 10) (s : State) : Option Bool :=
  if stopSetting n s = .keep then
    some (s.out.lines[n].effective && !(n == fillValve && s.tank.water.cls == .full))
  else none

theorem latchLine_lineOnly (s : State) (n : Fin 10) : LineOnly n s (latchLine n s) := by
  unfold latchLine
  exact .of_modLine n _ s

theorem latchLine_line (n : Fin 10) (s : State) : (latchLine n s).out.lines[n].stopState = stopSetting n s ∧
    (latchLine n s).out.lines[n].kept = keptTaken n s ∧
    (latchLine n s).out.lines[n].commanded = s.out.lines[n].commanded := by
  obtain ⟨-, -, hc, -⟩ := endRetry_fields s.out.lines[n]
  unfold latchLine
  dsimp only
  rw [State.modLine_line_self]
  refine ⟨rfl, ?_, hc⟩
  rw [keptTaken, stopSetting]
  rfl

/-- The lines as the hold begins: each in its stop-state, at its level, with its kept level (R132). -/
theorem holdLines_line (n : Fin 10) (s : State) : Held n (holdLines s) ∧
    (holdLines s).out.lines[n].stopState = stopSetting n s ∧ (holdLines s).out.lines[n].kept = keptTaken n s ∧
    (holdLines s).out.lines[n].commanded = s.out.lines[n].commanded := by
  have hf1 : ∀ (s : State) (n : Fin 10), LineOnly n s (latchLine n s) := latchLine_lineOnly
  have hf2 : ∀ (s : State) (n : Fin 10), LineOnly n s (drive n s) := fun s n => drive_lineOnly n s
  obtain ⟨u, hu, -, hul, hl⟩ := foldl_allLines_line hf1 n s
  obtain ⟨w, hw, hwh, hwl, hd⟩ := foldl_allLines_line hf2 n
    ((allLines.foldl (fun s n => latchLine n s) s).modOut fun o => { o with hold := true })
  have hs1 := foldl_lines_outOnly hf1 allLines s
  obtain ⟨h1, h2, h3⟩ := latchLine_line n u
  have hcls : u.tank = s.tank := hu.tank
  have hst : stopSetting n u = stopSetting n s := by rw [stopSetting, State.cfg, hu.store]; rfl
  have hkt : keptTaken n u = keptTaken n s := by rw [keptTaken, keptTaken, hst, hul, hcls]
  have hline : w.out.lines[n] = (latchLine n u).out.lines[n] := hwl.trans hl
  have hkeep : w.out.lines[n].stopState = .keep → w.out.lines[n].kept.isSome = true := by
    rw [hline, h1, h2, hst, hkt]
    intro h
    rw [keptTaken, if_pos h]
    rfl
  have hheld := drive_held (s := w) (n := n) hwh hkeep
  obtain ⟨k1, k2⟩ := drive_hold_fields n w
  have hall := foldl_lines_outOnly hf2 allLines
    ((allLines.foldl (fun s n => latchLine n s) s).modOut fun o => { o with hold := true })
  have heq : holdLines s = allLines.foldl (fun s n => drive n s)
    ((allLines.foldl (fun s n => latchLine n s) s).modOut fun o => { o with hold := true }) := rfl
  have htank : (holdLines s).tank = (drive n w).tank := by
    rw [heq, hall.1.tank, (drive_lineOnly n w).tank, hw.tank]
  rw [Held, heldLevel, htank, heq, hd, hall.2]
  refine ⟨⟨rfl, hheld.2.1, hheld.2.2⟩, ?_, ?_, ?_⟩
  · rw [k1, hline, h1, hst]
  · rw [k2, hline, h2, hkt]
  · rw [drive_commanded, hline, h3, hul]

/-! ## FILL_VALVE in a stop hold -/

/-- What the fill rules read as the statements have them (R119). -/
theorem fillTarget_eq (s : State) : fillTarget s.tank.levelVrep s = fillWanted s.tank.fillMode s := by
  unfold fillTarget fillWanted
  dsimp only
  by_cases hc : s.tank.water.cls = .full
  · simp [hc]
  · rw [if_neg hc, bne_iff_ne.2 hc, Bool.true_and]
    cases s.tank.fillMode with
    | off => rfl
    | manual => rfl
    | auto =>
      have hlt : decide (s.tank.levelVrep < s.cfg 202) = !decide (s.cfg 202 ≤ s.tank.levelVrep) := by
        rw [Bool.eq_iff_iff]
        simp
      rw [hlt]
      generalize decide (s.cfg 202 ≤ s.tank.levelVrep) = high
      generalize decide (s.tank.levelVrep ≤ s.cfg 201) = low
      cases s.out.lines[fillValve].commanded
      · exact Bool.and_comm _ _
      · cases high <;> cases s.tank.external <;> rfl

/-- What a judgment of FILL_VALVE leaves and gives in a stop hold (R119, R132). -/
structure FillHeld (s t : State) : Prop where
  gov : t.gov = s.gov
  hold : t.out.hold = true
  others : ∀ n : Fin 10, n ≠ fillValve → t.out.lines[n] = s.out.lines[n]
  held : Held fillValve t
  stop : t.out.lines[fillValve].stopState = s.out.lines[fillValve].stopState
  kept : t.out.lines[fillValve].kept = s.out.lines[fillValve].kept
  cls : t.tank.water = s.tank.water
  priming : t.tank.priming = s.tank.priming

theorem reconJudge_tank (arrival : Bool) (s : State) : (reconJudge arrival s).out = s.out ∧
    (reconJudge arrival s).tank.water = s.tank.water ∧ (reconJudge arrival s).tank.priming = s.tank.priming ∧
    (reconJudge arrival s).tank.fillMode = s.tank.fillMode ∧
    (reconJudge arrival s).tank.fillWindow = s.tank.fillWindow := by
  unfold reconJudge
  split <;> exact ⟨rfl, rfl, rfl, rfl, rfl⟩

theorem setFill_held {on : Bool} {s : State} (hs : Held fillValve s) (hw : s.tank.fillWindow = none) :
    FillHeld s (setFill on s) ∧ (setFill on s).out.lines[fillValve].commanded = on ∧
      (setFill on s).tank.fillMode = s.tank.fillMode ∧ (setFill on s).tank.fillWindow = none := by
  have hsame : FillHeld s s := ⟨rfl, hs.1, fun _ _ => rfl, hs, rfl, rfl, rfl, rfl⟩
  unfold setFill
  split
  · exact ⟨hsame, ‹_›, rfl, hw⟩
  · obtain ⟨h1, h2, h3⟩ := command_held (on := on) hs (by decide)
    have hl := command_lineOnly fillValve on s
    have hc := command_commanded fillValve on s
    generalize command fillValve on s = u at h1 h2 h3 hl hc
    have hb : (on && !s.out.hold) = false := by rw [hs.1]; exact Bool.and_false _
    dsimp only
    rw [if_neg (by rw [hb]; decide)]
    obtain ⟨ho, hwt, hp, hm, hwin⟩ := reconJudge_tank false (u.modTank fun m => { m with fillWindow := none })
    have hgov := reconJudge_gov false (u.modTank fun m => { m with fillWindow := none })
    generalize reconJudge false (u.modTank fun m => { m with fillWindow := none }) = w at ho hwt hp hm hwin hgov
    have hout : w.out = u.out := ho
    have hwat : w.tank.water = s.tank.water := hwt.trans (congrArg TankMonitor.water hl.tank :)
    refine ⟨⟨hgov.trans hl.gov, by rw [hout]; exact h1.1, fun n hn => ?_, ?_, ?_, ?_, hwat,
      hp.trans (congrArg TankMonitor.priming hl.tank :)⟩, ?_, hm.trans (congrArg TankMonitor.fillMode hl.tank :), hwin⟩
    · simp only [hout]
      exact hl.other hn
    · rw [Held, heldLevel, hwat]
      simp only [hout]
      rw [← congrArg TankMonitor.water hl.tank]
      exact h1
    · simp only [hout]
      exact h2
    · simp only [hout]
      exact h3
    · simp only [hout]
      exact hc

theorem fillJudge_held {s : State} (hs : Held fillValve s) (hw : s.tank.fillWindow = none) :
    FillHeld s (fillJudge s) ∧ (fillJudge s).out.lines[fillValve].commanded = fillWanted s.tank.fillMode s ∧
      (fillJudge s).tank.fillMode = fillModeAfter s.tank.fillMode s ∧ (fillJudge s).tank.fillWindow = none := by
  have key : ∀ u : State, (u = s ∨ u = s.modTank fun m => { m with fillMode := .off }) → ∀ c : Bool,
      let t := if c = true then raise .fill (setFill (fillTarget s.tank.levelVrep s) u)
        else setFill (fillTarget s.tank.levelVrep s) u
      FillHeld s t ∧ t.out.lines[fillValve].commanded = fillWanted s.tank.fillMode s ∧
        t.tank.fillMode = u.tank.fillMode ∧ t.tank.fillWindow = none := by
    intro u hu c
    have hu' : FillHeld s (setFill (fillTarget s.tank.levelVrep s) u) ∧
        (setFill (fillTarget s.tank.levelVrep s) u).out.lines[fillValve].commanded = fillTarget s.tank.levelVrep s ∧
        (setFill (fillTarget s.tank.levelVrep s) u).tank.fillMode = u.tank.fillMode ∧
        (setFill (fillTarget s.tank.levelVrep s) u).tank.fillWindow = none := by
      obtain rfl | rfl := hu
      · exact setFill_held hs hw
      · obtain ⟨⟨h1, h2, h3, h4, h5, h6, h7, h8⟩, h9⟩ :=
          setFill_held (on := fillTarget s.tank.levelVrep s)
            (s := s.modTank fun m => { m with fillMode := .off }) hs hw
        exact ⟨⟨h1, h2, h3, h4, h5, h6, h7, h8⟩, h9⟩
    rw [← fillTarget_eq]
    cases c
    · exact hu'
    · obtain ⟨⟨h1, h2, h3, h4, h5, h6, h7, h8⟩, h9⟩ := hu'
      exact ⟨⟨h1, h2, h3, h4, h5, h6, h7, h8⟩, h9⟩
  have hmode : (if (s.tank.water.cls == .full && s.tank.fillMode == .manual) = true
      then s.modTank fun m => { m with fillMode := .off } else s).tank.fillMode =
        fillModeAfter s.tank.fillMode s := by
    unfold fillModeAfter
    by_cases h : s.tank.water.cls = .full ∧ s.tank.fillMode = .manual
    · rw [if_pos h, if_pos (by simpa using h)]
      rfl
    · rw [if_neg h, if_neg (by simpa using h)]
  rw [← hmode]
  unfold fillJudge fillJudgeOn
  dsimp only
  refine key _ ?_ _
  split
  · exact .inr rfl
  · exact .inl rfl

end Sys2Proof.Machine
end

section
/-! PROOF. A pump stop (R23, R44, R68, R132): entry 0 joins, the PTO controller leaves, and the stop hold begins. -/

namespace Sys2Proof.Machine

/-! ## The stop hold -/

/-- `t` is `s` as the stop hold has begun. -/
structure HoldBegun (s t : State) : Prop where
  gov : t.gov = { s.gov with duty := 50 }
  hold : t.out.hold = true
  held : ∀ n : Fin 10, Held n t ∧ t.out.lines[n].stopState = stopSetting n s ∧ t.out.lines[n].kept = keptTaken n s
  commanded : ∀ n : Fin 10, n ≠ fillValve → t.out.lines[n].commanded = s.out.lines[n].commanded ∨
    n = primerLine ∧ t.out.lines[n].commanded = false
  water : t.tank.water = s.tank.water
  priming : t.tank.priming = false
  window : t.tank.fillWindow = none
  mode : t.tank.fillMode = fillModeAfter s.tank.fillMode s
  fill : t.out.lines[fillValve].commanded = fillWanted s.tank.fillMode s

/-- The primer's end in a stop hold. -/
theorem primerEnd_held {s : State} (h : ∀ n : Fin 10, Held n s) :
    let t := primerEnd .stopped s
    t.gov = s.gov ∧ t.out.hold = true ∧ (∀ n : Fin 10, Held n t ∧
      t.out.lines[n].stopState = s.out.lines[n].stopState ∧ t.out.lines[n].kept = s.out.lines[n].kept ∧
      (t.out.lines[n].commanded = s.out.lines[n].commanded ∨ n = primerLine ∧ t.out.lines[n].commanded = false)) ∧
    t.tank.water = s.tank.water ∧ t.tank.levelVrep = s.tank.levelVrep ∧ t.tank.external = s.tank.external ∧
    t.tank.fillMode = s.tank.fillMode ∧ t.tank.priming = false ∧ t.store = s.store := by
  intro t
  have hgov : t.gov = s.gov := primerEnd_gov _ s
  have ht : t = primerEnd .stopped s := rfl
  unfold primerEnd at ht
  split at ht
  · let u := s.modTank fun m => { m with priming := false, outcome := .stopped, runTimer := none, primeTimer := none }
    have hu : ∀ n : Fin 10, Held n u := h
    have hl := command_lineOnly primerLine false u
    have hout : t.out = (command primerLine false u).out := by rw [ht]; rfl
    have htank : t.tank = u.tank := by rw [ht]; exact hl.tank
    refine ⟨hgov, by rw [hout, hl.hold]; exact (h 0).1, fun n => ?_, (congrArg TankMonitor.water htank :),
      (congrArg TankMonitor.levelVrep htank :), (congrArg TankMonitor.external htank :),
      (congrArg TankMonitor.fillMode htank :), (congrArg TankMonitor.priming htank :),
      by rw [ht]; exact (Reacted.of_lineOnly hl).store⟩
    have hheld : ∀ w : State, w.out = t.out → w.tank.water = s.tank.water → (Held n w → Held n t) := by
      intro w ho hw
      rw [Held, Held, heldLevel, heldLevel, hw, htank, ho]
      exact id
    simp only [hout]
    by_cases hn : n = primerLine
    · subst hn
      obtain ⟨h1, h2, h3⟩ := command_held (on := false) (hu primerLine) (by decide)
      exact ⟨hheld _ hout.symm (congrArg TankMonitor.water hl.tank :) h1, h2, h3, .inr ⟨rfl, command_commanded _ _ _⟩⟩
    · rw [hl.other hn]
      exact ⟨hheld _ hout.symm (congrArg TankMonitor.water hl.tank :) ((hu n).command_other hn), rfl, rfl, .inl rfl⟩
  · rename_i hp
    rw [ht]
    exact ⟨rfl, (h 0).1, fun n => ⟨h n, rfl, rfl, .inl rfl⟩, rfl, rfl, rfl, rfl, by simpa using hp, rfl⟩

theorem modOut_outOnly (f : Outputs → Outputs) (s : State) : OutOnly s (s.modOut f) := rfl

theorem holdLines_outOnly (s : State) : OutOnly s (holdLines s) := by
  unfold holdLines
  dsimp only
  refine OutOnly.trans ?_ (foldl_lines_outOnly (fun s n => drive_lineOnly n s) _ _).1
  refine OutOnly.trans ?_ (modOut_outOnly _ _)
  exact (foldl_lines_outOnly latchLine_lineOnly _ _).1

theorem holdBegin_begun (s : State) : HoldBegun s (holdBegin s) := by
  have ho := holdLines_outOnly s
  have hlines := fun n => holdLines_line n s
  have hbegin : holdBegin s = fillJudge
      ((primerEnd .stopped (setDuty (holdLines s))).modTank fun m => { m with fillWindow := none }) := by
    unfold holdBegin
    rfl
  generalize holdLines s = v at ho hlines hbegin
  have hd : (setDuty v).gov = { s.gov with duty := 50 } := by
    have : dutyOf v = 50 := dutyOf_of_hold (hlines 0).1.1
    rw [setDuty, State.modGov_gov, this, ho.gov]
  obtain ⟨p1, p2, p3, p4, p5, p6, p7, p8, p9⟩ := primerEnd_held (s := setDuty v) fun n => (hlines n).1
  generalize primerEnd .stopped (setDuty v) = u at p1 p2 p3 p4 p5 p6 p7 p8 p9 hbegin
  obtain ⟨⟨k1, k2, k3, k4, k5, k6, k7, k8⟩, kc, km, kw⟩ :=
    fillJudge_held (s := u.modTank fun m => { m with fillWindow := none }) (p3 fillValve).1 rfl
  rw [hbegin]
  have hwater : u.tank.water = s.tank.water := p4.trans (congrArg TankMonitor.water ho.tank :)
  have hheld : ∀ n : Fin 10, n ≠ fillValve →
      Held n (fillJudge (u.modTank fun m => { m with fillWindow := none })) := by
    intro n hn
    obtain ⟨-, h2, h3⟩ := (p3 n).1
    rw [Held, heldLevel, k3 n hn, k2, k7]
    exact ⟨rfl, h2, h3⟩
  have hwanted : ∀ m, fillWanted m (u.modTank fun m => { m with fillWindow := none }) = fillWanted m s := by
    intro m
    have hc : u.out.lines[fillValve].commanded = s.out.lines[fillValve].commanded := by
      obtain h | ⟨h, -⟩ := (p3 fillValve).2.2.2
      · exact h.trans (hlines fillValve).2.2.2
      · cases h
    have hs : u.store = s.store := p9.trans ho.store
    unfold fillWanted
    change (u.tank.water.cls != .full && (m == .manual || m == .auto && u.tank.external &&
      if u.out.lines[fillValve].commanded = true then decide (u.tank.levelVrep < u.cfg 202)
        else decide (u.tank.levelVrep ≤ u.cfg 201))) = _
    have hx : u.tank.external = s.tank.external := p6.trans (congrArg TankMonitor.external ho.tank :)
    have hv : u.tank.levelVrep = s.tank.levelVrep := p5.trans (congrArg TankMonitor.levelVrep ho.tank :)
    rw [hwater, hc, hx, hv, State.cfg, State.cfg, hs]
    rfl
  have hfm : u.tank.fillMode = s.tank.fillMode := p7.trans (congrArg TankMonitor.fillMode ho.tank :)
  refine
    { gov := k1.trans (p1.trans hd)
      hold := k2
      held := fun n => ?_
      commanded := fun n hn => ?_
      water := k7.trans hwater
      priming := k8.trans p8
      window := kw
      mode := km.trans ?_
      fill := kc.trans ?_ }
  · obtain ⟨-, h2, h3, -⟩ := hlines n
    obtain ⟨-, q2, q3, -⟩ := p3 n
    by_cases hn : n = fillValve
    · subst hn
      exact ⟨k4, k5.trans (q2.trans h2), k6.trans (q3.trans h3)⟩
    · refine ⟨hheld n hn, ?_, ?_⟩
      · rw [k3 n hn]
        exact q2.trans h2
      · rw [k3 n hn]
        exact q3.trans h3
  · rw [k3 n hn]
    obtain ⟨-, -, -, h4⟩ := hlines n
    obtain ⟨-, -, -, q4⟩ := p3 n
    exact q4.imp_left fun h => h.trans h4
  · change fillModeAfter u.tank.fillMode (u.modTank _) = _
    rw [hfm, fillModeAfter, fillModeAfter]
    exact congrArg (fun w : Tank => if w.cls = .full ∧ s.tank.fillMode = .manual then FillMode.off else s.tank.fillMode)
      hwater
  · change fillWanted u.tank.fillMode _ = _
    rw [hfm, hwanted]

/-! ## The stop -/

theorem interlockLines_driven (s : State) : Driven s (interlockLines s) :=
  (Commanded.command s (.inl rfl)).trans (.command _ (.inr (.inl rfl)))

/-- An alarm that sounds has its cadence, and is turned on where it had none (R51). -/
theorem alarmJudge_sounding {s : State} (h : sounding s = true) :
    (alarmJudge s).ilk.cadence.isSome = true ∧ Driven s (alarmJudge s) := by
  unfold alarmJudge
  rw [h]
  cases hc : s.ilk.cadence
  · refine ⟨by rw [command_ilk]; rfl, ?_⟩
    have h1 : Driven s (s.modIlk fun k => { k with cadence := some (ms 500) }) := .of_out rfl
    exact h1.trans (.command _ (.inr (.inr (.inl ⟨rfl, rfl⟩))))
  · exact ⟨by rw [hc]; rfl, .refl s⟩

/-- A change of a list that sounds the alarm. -/
theorem listChanged_sounding (before : ActionSet) {s : State} (h : sounding s = true) :
    (listChanged before s).ilk.cadence.isSome = true ∧ Driven s (listChanged before s) := by
  have hs : sounding (interlockLines s) = true := by
    have hr := (interlockLines_judged (N := fun _ => False) s).reacted.store
    simpa only [sounding, interlockLines_ilk, entryActions_of_store hr] using h
  obtain ⟨h1, h2⟩ := alarmJudge_sounding hs
  have h3 := (interlockLines_driven s).trans h2
  unfold listChanged
  dsimp only
  split
  · exact ⟨h1, h3⟩
  · have hi := rejudgeBounds_idled (alarmJudge (interlockLines s))
    exact ⟨by rw [hi.ilk]; exact h1, h3.trans (.of_out hi.out)⟩

/-- Entry 0 joins: it stands in the list and sounds the alarm, and gives its notice alone. -/
theorem stop_joins {s : State} (h0 : NoticesTaken s) (hc : s.ilk.entries[(0 : Fin 32)].state = .clear)
    (he : lineSource s 3 = true) : Standing (judge 0 s) ∧ Driven s (judge 0 s) ∧
      (judge 0 s).ilk.notices = [⟨0, entryActions s 0⟩] := by
  have hj : judge 0 s = join 0 s := by
    unfold judge
    rw [effective_zero, hc, he]
    exact if_pos rfl
  have hdisc := (join_reacted 0 s).disc
  obtain ⟨c, hi⟩ := join_ilk 0 s
  let w := raise (.lockout 0) ((s.modEntry 0 fun _ => ⟨.active, none, false⟩).modIlk
    fun k => { k with active := k.active ++ [0] })
  have hsnd : sounding w = true := by
    refine List.any_eq_true.2 ⟨0, List.mem_append_right _ List.mem_cons_self, ?_⟩
    have : w.ilk.entries[(0 : Fin 32)] = ⟨.active, none, false⟩ := by simp [w]
    rw [this]
    rfl
  obtain ⟨hcad, hdr⟩ := listChanged_sounding (actionsInForce s) hsnd
  have hjoin : join 0 s = (listChanged (actionsInForce s) w).modIlk
      fun k => { k with notices := k.notices ++ [⟨0, entryActions s 0⟩] } := by
    unfold join
    exact if_pos rfl
  have hdriven : Driven s (join 0 s) := by
    rw [hjoin]
    have h1 : Driven s w := .of_out rfl
    exact (h1.trans hdr).trans (.of_out rfl)
  rw [hj]
  refine ⟨⟨join_entry 0 s, by rw [hi]; simp, by rwa [lineSource, hdisc], ?_⟩, hdriven, ?_⟩
  · rw [hjoin]
    exact hcad
  · rw [hi, h0]
    rfl

theorem stopCommand_cases (n : Fin 10) : n = driveEn ∨ n = thrLimit ∨ n = alarmLine ∨
    (n = tankValveLine ∨ n = fillValve ∨ n = relief) ∨ ∀ c, StopCommand n c → c = false := by
  unfold StopCommand
  revert n
  decide

/-- A line that ends as it was commanded stands at the level it had, through the commands before the hold (R132). -/
theorem effective_kept {s t : State} {n : Fin 10} {b : Bool} (hd : Driven s t) (hl : LineLaw s) (hg : DiagLaw s)
    (hdrive : s.out.lines[driveEn].commanded = permit s) (hh : s.out.hold = false)
    (hblock : permit s = true → s.out.lines[driveEn].commanded = true →
      t.out.lines[driveEn] = s.out.lines[driveEn] ∨ Blocked t)
    (hthr : n = thrLimit → s.out.lines[n].diag ≠ .faultOpen)
    (hb : b = t.out.lines[n].commanded ∨ n = primerLine ∧ b = false) (hc : b = s.out.lines[n].commanded) :
    t.out.lines[n].effective = s.out.lines[n].effective := by
  have hfree : n ≠ fillValve → Free n s := fun hn => by
    obtain ⟨he, -⟩ := hl n
    refine ⟨hh, ?_⟩
    rw [he, beq_false_of_ne hn, Bool.false_and, Bool.not_false, Bool.true_and, hh]
    rfl
  have off : (∀ c, StopCommand n c → c = false) → t.out.lines[n].effective = s.out.lines[n].effective := by
    intro hoff
    have hp := hd.pushed hoff
    have : t.out.lines[n] = s.out.lines[n] := by
      obtain hb | ⟨-, hb⟩ := hb
      · exact hp.eq (by rw [← hb, hc])
      · exact hp.resolve_right fun h => by rw [hc, h.1] at hb; cases hb
    rw [this]
  have hstand : n ≠ primerLine → t.out.lines[n].commanded = s.out.lines[n].commanded := fun hn => by
    obtain hb | ⟨h, -⟩ := hb
    · rw [← hb, hc]
    · exact absurd h hn
  obtain rfl | rfl | rfl | hn | hoff := stopCommand_cases n
  · by_cases hon : s.out.lines[driveEn].commanded = true
    · obtain h | h := hblock (hdrive ▸ hon) hon
      · rw [h]
      · have := hstand (by decide)
        rw [h.2, hon] at this
        cases this
    · have hon : s.out.lines[driveEn].commanded = false := by simpa using hon
      have hf := hfree (by decide)
      rw [(hd.free (by decide) hf).2, hf.2, freeLevel, freeLevel, hstand (by decide), hon]
      rfl
  · have hf := hfree (by decide)
    obtain ⟨hret, -⟩ := hg thrLimit
    have hph : s.out.lines[thrLimit].retryPhase = none := by
      by_contra h
      exact hthr rfl (hret h).1
    have hpl : Plain thrLimit s := ⟨hh, hthr rfl, hph, by rw [hf.2, freeLevel, hph]; exact Bool.and_true _⟩
    obtain ⟨-, -, -, h1⟩ := hd.plain (by decide) hpl
    obtain ⟨-, -, -, h2⟩ := hpl
    rw [h1, h2]
    exact hstand (by decide)
  · have hp := hd.pushed (n := alarmLine) (on := true) (by unfold StopCommand; decide)
    rw [hp.eq (hstand (by decide))]
  · rw [hd.kept hn]
  · exact off hoff

theorem takeNotices_succ {k : Nat} {s : State} {x : Notice} {rest : List Notice} (h : s.ilk.notices = x :: rest) :
    takeNotices (k + 1) s = takeNotices k (takeNotice x (s.modIlk fun i => { i with notices := rest })) := by
  rw [takeNotices, h]

/-- The end of a command that has given one notice. -/
theorem settle_of_one {s : State} {x : Notice} (h : s.ilk.notices = [x]) :
    settle s = takeNotices 255 (takeNotice x (s.modIlk fun k => { k with notices := [] })) := takeNotices_succ h

/-- What a stop notice makes of the part. -/
theorem takeNotice_stop {x : Notice} {s : State} (hx : x.entry = 0) (hp : x.actions.releasePto = true)
    (hi : x.actions.forceIdle = true) : takeNotice x s = holdBegin (governorForceIdle (ptoOnNotice x s)) := by
  unfold takeNotice
  dsimp only
  rw [hp, Bool.true_or, if_pos rfl, if_pos hi, if_pos hx]

theorem ptoDropped_congr {s t : State} (hd : t.disc[2] = s.disc[2]) (hs : t.store = s.store) :
    ptoDropped t = ptoDropped s := by
  rw [ptoDropped, ptoDropped, hd, State.cfgN, State.cfgN, hs]

/-- Settles O35: entry 0 joins (`stop_joins`), the PTO controller answers its notice (`ptoOnNotice_withdrawn`), and the
stop hold begins (`holdBegin_begun`); the notices that are left move the governor alone. -/
theorem pumpStopBeginsHold : Obligations.PumpStopBeginsHold := by
  intro s h0 hlaw _ _ hg hdeb hraw hclear after
  have hread : interpret s 3 s.disc[(3 : Fin 12)].raw = true := by
    have hraw' : s.disc[(3 : Fin 12)].raw = .opened := hraw
    unfold interpret
    rw [if_pos rfl, hraw']
    rfl
  have hexec := exec_debounceExpiry (n := 3) (s := s) hdeb
  rw [hread] at hexec
  let u := switchSettled 3 true s
  have hu : switchPublished 3 u = judge 0 u := rfl
  have hj := judge_judged 0 u
  obtain ⟨hstand, hdriven, hnot⟩ := stop_joins (s := u) h0 hclear (switchSettled_source 3 true s)
  have hup := fun hp hc => (judge_up 0 (s := u) hp hc).resolve_right fun h => absurd h.1 (by decide)
  rw [hu, settle_of_one hnot, takeNotice_stop rfl rfl rfl] at hexec
  generalize judge 0 u = v at hj hstand hdriven hup hexec
  let v' := v.modIlk fun k => { k with notices := [] }
  have hw : Withdrawn v' (ptoOnNotice ⟨0, entryActions u 0⟩ v') := by
    refine ptoOnNotice_withdrawn rfl hstand rfl ?_ ?_
    · rw [PtoLaw, show v'.pto = s.pto from hj.pto]
      exact hlaw
    · rw [GovernorStateLaw, show v'.gov.state = s.gov.state from hj.bounds.state, show v'.pto = s.pto from hj.pto]
      exact hg
  generalize ptoOnNotice ⟨0, entryActions u 0⟩ v' = p at hw hexec
  have hq := governorForceIdle_idled p
  have hqs := governorForceIdle_state p
  generalize governorForceIdle p = q at hq hqs hexec
  have hb := holdBegin_begun q
  have ha := holdBegin_apart q
  generalize holdBegin q = r at hb ha hexec
  have ht := takeNotices_idled 255 r fun x hx => by
    rw [ha.ilk, hq.ilk] at hx
    rw [ha.pto, hq.pto]
    exact hw.deaf x hx
  generalize takeNotices 255 r = t at ht hexec
  have hilk : t.ilk = { p.ilk with notices := [] } := by rw [ht.ilk, State.modIlk_ilk, ha.ilk, hq.ilk]
  have hout : t.out = r.out := ht.out
  have htank : t.tank = r.tank := ht.tank
  have hreact : Reacted u q := hj.reacted.trans ((Reacted.modIlk _ v).trans (hw.reacted.trans hq.reacted))
  have hpto : t.pto = after := by
    have hvd : v.disc[2] = s.disc[2] := by
      rw [hj.reacted.disc]
      exact switchSettled_other (n := 3) (m := 2) (by decide) true s
    have hdrop : ptoDropped v' = ptoDropped s := ptoDropped_congr hvd hj.reacted.store
    rw [ht.pto, State.modIlk_pto, ha.pto, hq.pto, hw.pto, ptoStopped, hdrop, show v'.pto = s.pto from hj.pto]
  have hwater : r.tank.water = s.tank.water := hb.water.trans hreact.water
  have hqp : q.out = p.out := hq.out
  have hcfg : ∀ n, stopSetting n q = stopStateOf (s.cfg (210 + n.val)) := fun n => by
    rw [stopSetting, State.cfg, hreact.store]
    rfl
  have hfill : q.tank.fillMode = s.tank.fillMode := by
    rw [hq.tank, hw.fill]
    exact congrArg TankMonitor.fillMode hj.tank
  refine ⟨t, hexec, ?_, ?_, hpto, by rw [hout]; exact hb.hold, ?_, by rw [htank]; exact hb.priming,
    by rw [htank]; exact hb.window, ?_, fun n => ⟨?_, ?_, ?_, ?_⟩, ?_, ?_⟩
  · simp only [hilk]
    exact hw.standing.1
  · rw [hilk]
    exact hw.standing.2.1
  · exact ht.duty hb.hold (by rw [State.modIlk_gov, hb.gov])
  · have hpp : p.pto = after := by rw [← hpto, ht.pto, State.modIlk_pto, ha.pto, hq.pto]
    have hgov := hw.gov
    rw [hpp] at hgov
    have hr : r.gov.state = if after.state = .releasing then .idle else .off := by
      rw [hb.gov]
      refine hqs.trans ?_
      by_cases hrel : after.state = .releasing
      · rw [if_neg (hgov.2 hrel), if_pos hrel]
      · rw [if_pos (not_not.1 (mt hgov.1 hrel)), if_neg hrel]
    obtain h | ⟨h, hoff⟩ := ht.state
    · exact h.trans hr
    · rw [State.modIlk_gov, hr] at hoff
      rw [h]
      split at hoff
      · rw [if_pos ‹_›]
      · exact absurd rfl hoff
  · rw [hout, (hb.held n).2.1, hcfg]
  · obtain ⟨⟨-, he, -⟩, -⟩ := hb.held n
    rw [heldLevel, hwater] at he
    rw [hout]
    exact he
  · rw [hout, (hb.held n).2.1, (hb.held n).2.2, keptTaken]
    exact fun h => if_neg h
  · intro hkeep hcond
    have hkept := (hb.held n).2.2
    rw [hout] at hkeep ⊢
    rw [(hb.held n).2.1] at hkeep
    rw [hkept, keptTaken, if_pos hkeep, hreact.water, hqp]
    have hall : Driven u p := by
      have h1 : Driven v v' := .of_out rfl
      exact (hdriven.trans h1).trans hw.driven
    suffices he : p.out.lines[n].effective = s.out.lines[n].effective by
      rw [he]
      rfl
    by_cases hn : n = tankValveLine ∨ n = fillValve ∨ n = relief
    · exact congrArg OutputLine.effective (hall.kept hn)
    · obtain ⟨hline, hdiag, hdrive, hrun, hhold, hcmd, hthr⟩ :=
        ((hcond.resolve_left fun h => hn (.inl h)).resolve_left fun h => hn (.inr (.inl h))).resolve_left
          fun h => hn (.inr (.inr h))
      have hnf : n ≠ fillValve := fun h => hn (.inr (.inl h))
      have hb6 := hb.commanded n hnf
      rw [hqp] at hb6
      rw [hout] at hcmd
      refine effective_kept (s := u) (b := r.out.lines[n].commanded) hall hline hdiag (hdrive hrun) hhold
        (fun hp hc => ?_) hthr hb6 hcmd
      obtain ⟨h1, l1⟩ := hup hp hc
      obtain ⟨-, h2⟩ | h2 := hw.drive (h1 : permit v' = true) (by rw [show v'.out = v.out from rfl, l1]; exact hc)
      · exact .inl (h2.trans l1)
      · exact .inr h2
  · rw [htank, hb.mode, hfill, fillModeAfter, fillModeAfter, hreact.water]
    rfl
  · have hfc : q.out.lines[fillValve].commanded = s.out.lines[fillValve].commanded := by
      rw [hqp]
      have h1 : Driven v v' := .of_out rfl
      have hall : Driven u p := (hdriven.trans h1).trans hw.driven
      exact congrArg OutputLine.commanded (hall.kept (.inr (.inl rfl)))
    rw [hout, hb.fill, hfill, fillWanted, fillWanted, hreact.water, hreact.external, hreact.levelVrep, hfc, State.cfg,
      State.cfg, hreact.store]
    rfl

end Sys2Proof.Machine
end

section
/-! PROOF. A request that reaches the part (R144, R152, R154, R155): what serving it makes of the port and the arbiter. -/

namespace Sys2Proof.Machine

/-- What the part is before a request's body acts: the assembler has taken the frame and the arbiter has heard its
station. -/
theorem heard_eq {h : Header} {s : State} (hr : Receives h s) :
    arbiterFrame (stationOf h.port h.origin) (s.modPort h.port fun p => p.cancelReply.waiting) = heard h s := by
  obtain ⟨-, -, hlapse, -⟩ := hr
  have hp : (fun p : PortRecord => p.cancelReply.waiting) = fun p => { p with
      frame := none, gap := none, reply := none
      queue := if p.reply = none then p.queue else p.queue.map fun e => { e with carried := false } } := by
    funext p
    unfold PortRecord.cancelReply PortRecord.waiting
    cases hq : p.reply <;> simp [hq]
  unfold arbiterFrame heard
  rw [hp]
  have hauth : ∀ f, (s.modPort h.port f).auth = s.auth := fun f => by cases h.port <;> rfl
  have htime : ∀ f, (s.modPort h.port f).silenceTime = ms (s.cfgN 240) := fun f => by cases h.port <;> rfl
  generalize hw : s.modPort h.port _ = w
  have hwa : w.auth = s.auth := hw ▸ hauth _
  have hwt : w.silenceTime = ms (s.cfgN 240) := hw ▸ htime _
  have hself : ∀ f : Authority → Authority, f w.auth = w.auth → w = w.modAuth f := by
    intro f hf
    unfold State.modAuth
    rw [hf]
  by_cases hh : w.auth.holder = some (stationOf h.port h.origin)
  · have hl : w.auth.lapsed = false := by
      rw [hwa] at hh ⊢
      exact hlapse hh
    rw [if_pos hh, hl, hwt]
    unfold State.modAuth
    simp [hh, hl]
  · rw [if_neg hh]
    exact hself _ (by simp [hh])

theorem heard_reacted_fields (h : Header) (s : State) :
    heard h s = { s with auth := (heard h s).auth, links := (heard h s).links } := by
  cases hp : h.port <;> simp [heard, hp, State.modPort, State.modLinks, State.modAuth]

/-- The reply slot is empty while a request's body acts. -/
theorem heard_reply (h : Header) (s : State) : ((heard h s).port h.port).reply = none := by
  cases hp : h.port <;> simp [heard, hp, State.modPort, State.modLinks, State.modAuth, State.port]

theorem PortKept.reply {p q : PortRecord} (h : PortKept p q) : q.reply = p.reply := (congrArg PortRecord.reply h :)

theorem Reacted.port {s t : State} (h : Reacted s t) (p : Port) : PortKept (s.port p) (t.port p) := by
  cases p
  · exact h.portA
  · exact h.portB

/-- A request with a body that only reacts, and that carries no report, is answered (R152, R154). -/
theorem serve_answered {h : Header} {s : State} {kind : Nat} {body : Body} {t : State} {r : Result} {d : List Byte}
    (hr : Receives h s) (hb : body (stationOf h.port h.origin) h.port (heard h s) = (t, ⟨r, d, []⟩))
    (hp : ((settle t).port h.port).reply = none) :
    serve h kind false body s = answered h kind r d (settle t) := by
  have heq := heard_eq hr
  obtain ⟨hl, ht, -⟩ := hr
  have hhears : (s.port h.port).hears = true := by
    unfold PortRecord.hears
    rw [hl, ht]
    rfl
  have htag : buildReply h kind ⟨r, d, []⟩ =
      ⟨byte ((if h.origin = .service then 128 else 0) + h.tag.toNat), byte kind, byte r.code, d, []⟩ := by
    unfold buildReply originTag
    cases h.origin <;> rfl
  unfold serve handFrame
  rw [if_pos hhears]
  dsimp only
  rw [heq, hb, Bool.and_false, if_neg (by decide), htag]
  unfold answered replyTo
  cases hbc : h.bcast
  · rfl
  · have : ∀ u : State, (u.port h.port).reply = none → u = u.modPort h.port fun p => { p with reply := none } := by
      intro u hu
      unfold State.modPort State.modLinks
      cases hport : h.port <;> rw [hport] at hu <;> simp only [State.port] at hu <;> rw [← hu]
    exact this _ hp

end Sys2Proof.Machine
end

section
/-! PROOF. The live table under a write (R167), and what judgments make of a line whose diagnostics are off (R137). -/

namespace Sys2Proof.Machine

/-! ## The table -/

theorem lookup_tableSet (l : List (Nat × Half)) (i j : Nat) (v : Half) :
    (tableSet l i v).lookup j = if j = i then (l.lookup j).map fun _ => v else l.lookup j := by
  induction l with
  | nil => simp [tableSet]
  | cons e l ih =>
    obtain ⟨k, x⟩ := e
    have ih' : List.lookup j (List.map (fun e => if e.1 = i then (i, v) else e) l) = _ := ih
    simp only [tableSet, List.map_cons]
    by_cases hk : k = i
    · subst hk
      rw [if_pos rfl]
      by_cases hj : j = k
      · subst hj
        simp
      · rw [List.lookup_cons, List.lookup_cons, beq_false_of_ne hj, ih']
    · rw [if_neg hk]
      by_cases hj : j = k
      · subst hj
        simp [hk]
      · rw [List.lookup_cons, List.lookup_cons, beq_false_of_ne hj, ih']

/-- The other items stand. -/
theorem tableValue_tableSet_other {i j : Nat} (h : j ≠ i) (l : List (Nat × Half)) (v : Half) :
    tableValue (tableSet l i v) j = tableValue l j := by
  unfold tableValue
  rw [lookup_tableSet, if_neg h]

/-- An item of the table takes its value. -/
theorem tableValue_tableSet_self {i : Nat} {l : List (Nat × Half)} (h : i ∈ l.map (·.1)) (v : Half) :
    tableValue (tableSet l i v) i = v := by
  obtain ⟨x, hx, -⟩ := exists_lookup_of_mem_keys h
  unfold tableValue
  rw [lookup_tableSet, if_pos rfl, hx]
  rfl

/-- In a filled table every item has its place. -/
theorem SettingsLaw.keys {s : State} (h : SettingsLaw s) (hl : s.store.live ≠ []) :
    s.store.live.map (·.1) = itemNumbers := (h.resolve_left hl).1

/-! ## What a judgment keeps of the lines -/

section Induction
variable {P : State → Prop}
  (hout : ∀ s t : State, t.out = s.out → t.store = s.store → t.analog = s.analog → P s → P t)
  (hcmd : ∀ (s : State) (n : Fin 10) (on : Bool), n = driveEn ∨ n = thrLimit ∨ n = alarmLine → P s → P (command n on s))
include hout hcmd

/-- A change of the list commands the interlock unit's own three lines alone. -/
theorem listChanged_keeps (before : ActionSet) {s : State} (h : P s) : P (listChanged before s) := by
  have h1 : P (interlockLines s) := hcmd _ _ _ (.inr (.inl rfl)) (hcmd _ _ _ (.inl rfl) h)
  have h2 : ∀ u : State, P u → P (alarmJudge u) := by
    intro u hu
    unfold alarmJudge
    split
    · exact hcmd _ _ _ (.inr (.inr rfl)) (hout u _ rfl rfl rfl hu)
    · exact hcmd _ _ _ (.inr (.inr rfl)) (hout u _ rfl rfl rfl hu)
    · exact hu
  unfold listChanged
  dsimp only
  split
  · exact h2 _ h1
  · have hi := rejudgeBounds_idled (alarmJudge (interlockLines s))
    exact hout _ _ hi.out hi.reacted.store hi.reacted.analog (h2 _ h1)

/-- What a property of the lines, the settings and the analog input keeps through these commands, it keeps through a
judgment. -/
theorem judge_keeps (n : Fin 32) {s : State} (h : P s) : P (judge n s) := by
  have hmove : ∀ (before : ActionSet) (u : State), u.out = s.out → u.store = s.store → u.analog = s.analog →
      P (listChanged before u) := fun before u h1 h2 h3 => listChanged_keeps hout hcmd before (hout s u h1 h2 h3 h)
  have hnotify : ∀ (u : State) (x : Notice), P u → P (u.modIlk fun k => { k with notices := k.notices ++ [x] }) :=
    fun u x hu => hout u _ rfl rfl rfl hu
  have hj : P (join n s) := by
    unfold join
    dsimp only
    split
    · exact hnotify _ _ (hmove _ _ rfl rfl rfl)
    · exact hmove _ _ rfl rfl rfl
  unfold judge
  split
  · split
    · exact hj
    · exact hout s _ rfl rfl rfl h
  · exact hout s _ rfl rfl rfl h
  · split
    · exact hout s _ rfl rfl rfl h
    · unfold leave
      dsimp only
      rw [if_neg (ne_zero_of_not_latches ‹_›)]
      exact hmove _ _ rfl rfl rfl
  · exact hout s _ rfl rfl rfl h
  · exact h

end Induction

/-! ## A line whose diagnostics are off -/

/-- A line without diagnostics in OK, without a retry. -/
def Unwatched (n : Fin 10) (s : State) : Prop :=
  s.diagEnabled n = false ∧ s.out.lines[n].diag = .ok ∧ s.out.lines[n].retryPhase = none ∧
    s.out.lines[n].retryCount = 0

theorem levelChanged_unwatched {n : Fin 10} {s : State} (h : s.diagEnabled n = false) : levelChanged n s = s := by
  unfold levelChanged startBlank
  rw [h]
  cases s.analog.supplyLow <;> simp

theorem drive_unwatched {n : Fin 10} {s : State} (h : Unwatched n s) : Unwatched n (drive n s) := by
  obtain ⟨he, hd, hp, hc⟩ := h
  unfold drive
  dsimp only
  split
  · exact ⟨he, hd, hp, hc⟩
  · rw [levelChanged_unwatched (by simpa [State.diagEnabled] using he), Unwatched, State.modLine_line_self]
    exact ⟨he, hd, hp, hc⟩

theorem commandTaken_retryCount (n : Fin 10) (on : Bool) (l : OutputLine) :
    (commandTaken n on l).retryCount = l.retryCount := by
  unfold commandTaken OutputLine.endRetry
  dsimp only
  split_ifs <;> rfl

theorem command_unwatched {n m : Fin 10} {on : Bool} {s : State} (h : Unwatched n s) :
    Unwatched n (command m on s) := by
  by_cases hnm : n = m
  · subst hnm
    by_cases hc : s.out.lines[n].commanded = on
    · rwa [command_line_self hc]
    · obtain ⟨he, hd, hp, hn⟩ := h
      obtain ⟨-, -, hdiag, hphase, -⟩ := commandTaken_fields n on s.out.lines[n]
      have hu : Unwatched n (s.modLine n (commandTaken n on)) := by
        rw [Unwatched, State.modLine_line_self, hdiag, commandTaken_retryCount, hphase hp]
        exact ⟨he, hd, rfl, hn⟩
      have hd' := drive_unwatched hu
      have hr : retryDue (drive n (s.modLine n (commandTaken n on))) n = false := by
        unfold retryDue
        dsimp only
        rw [hd'.2.1]
        rfl
      rw [command_eq hc, beginRetry, if_neg (by rw [hr]; decide)]
      exact hd'
  · have hl := command_lineOnly m on s
    rw [Unwatched, hl.other hnm, State.diagEnabled, State.cfg, (Reacted.of_lineOnly hl).store]
    exact h

theorem judge_unwatched {n : Fin 10} (e : Fin 32) {s : State} (h : Unwatched n s) : Unwatched n (judge e s) := by
  refine judge_keeps (P := Unwatched n) ?_ (fun _ _ _ _ hs => command_unwatched hs) e h
  intro u t ho hst _ hu
  rw [Unwatched, State.diagEnabled, State.cfg, hst, ho]
  exact hu

end Sys2Proof.Machine
end

section
/-! PROOF. What the owner of an item makes of a write (R22, R36, R73, R101 to R106, R137). -/

namespace Sys2Proof.Machine

/-- What every write leaves: `u` holds the new table, and `t` is what its owner has made of it. -/
structure WriteKeeps (u t : State) : Prop where
  reacted : Reacted { u with disc := t.disc, tank := t.tank } t
  mode : t.ilk.mode = u.ilk.mode
  pto : t.pto = u.pto
  hold : t.out.hold = u.out.hold
  work : t.gov.work = u.gov.work
  deaf : ∀ x ∈ t.ilk.notices, Deaf t.pto x

theorem WriteKeeps.refl {u : State} (h0 : NoticesTaken u) : WriteKeeps u u :=
  ⟨.refl u, rfl, rfl, rfl, rfl, by rw [h0]; simp⟩

/-- The end of the command leaves what the write left. -/
theorem WriteKeeps.settle {u t : State} (h : WriteKeeps u t) : WriteKeeps u (settle t) := by
  have hi := settle_idled h.deaf
  have hr : Reacted { u with disc := (Sys2Proof.Machine.settle t).disc, tank := (Sys2Proof.Machine.settle t).tank }
      (Sys2Proof.Machine.settle t) := by
    rw [show (Sys2Proof.Machine.settle t).disc = t.disc from hi.reacted.disc,
      show (Sys2Proof.Machine.settle t).tank = t.tank from hi.tank]
    exact h.reacted.trans hi.reacted
  refine ⟨hr, by rw [hi.ilk]; exact h.mode, hi.pto.trans h.pto, by rw [hi.out]; exact h.hold, hi.work.trans h.work,
    fun x hx => ?_⟩
  rw [hi.ilk] at hx
  cases hx

/-- A judgment of an entry that is none of the PTO controller's, or while the PTO is DISENGAGED. -/
theorem WriteKeeps.judge {u w : State} {n : Fin 32} (h : WriteKeeps u w) (h0 : n ≠ 0)
    (hn : (entryActions w n).inhibitPto = false ∧ (entryActions w n).releasePto = false ∨
      w.pto.state = .disengaged) : WriteKeeps u (judge n w) := by
  have hj := judge_judged n w
  have htank := hj.tank
  have hr : Reacted { u with disc := (Sys2Proof.Machine.judge n w).disc, tank := (Sys2Proof.Machine.judge n w).tank }
      (Sys2Proof.Machine.judge n w) := by
    rw [hj.reacted.disc, htank]
    exact h.reacted.trans hj.reacted
  refine ⟨hr, hj.mode.trans h.mode, hj.pto.trans h.pto, hj.bounds.hold.trans h.hold, hj.bounds.work.trans h.work, ?_⟩
  obtain ⟨new, e, j⟩ := hj.notices
  intro x hx
  rw [e] at hx
  rw [hj.pto]
  obtain hx | hx := List.mem_append.1 hx
  · exact h.deaf x hx
  · obtain ⟨hxn, ha, -⟩ := j x hx
    rw [hxn] at ha
    refine ⟨by rw [hxn]; exact h0, ?_⟩
    rw [ha]
    exact hn.imp_right fun hp => by rw [hp]; exact ⟨by decide, by decide, fun hx => by cases hx⟩

/-- A step on one line. -/
theorem WriteKeeps.of_lineOnly {u t : State} {n : Fin 10} (h : LineOnly n u t) (h0 : NoticesTaken u) :
    WriteKeeps u t := by
  have hr := Reacted.of_lineOnly h
  refine ⟨?_, by rw [h.ilk], h.pto, h.hold, by rw [h.gov], by rw [h.ilk, h0]; simp⟩
  rw [hr.disc, h.tank]
  exact hr

/-- A report. -/
theorem WriteKeeps.raise {u t : State} (h : WriteKeeps u t) (k : ReportKey) :
    WriteKeeps u (Sys2Proof.Machine.raise k t) :=
  ⟨h.reacted.trans (raise_reacted k t), h.mode, h.pto, h.hold, h.work, h.deaf⟩

/-! ## The owners, by item (R166) -/

theorem ownerTakes_switch {i : Nat} (n : Fin 12) (hi : i = 20 + n.val) (u : State) :
    ownerTakes i u = if u.disc[n].settled = true then rejudgeLine n u else u := by
  subst hi
  obtain ⟨k, hk⟩ := n
  unfold ownerTakes
  rw [dif_pos (by dsimp only; omega)]
  simp

theorem ownerTakes_diag {i : Nat} (n : Fin 10) (hi : i = 220 + n.val) (u : State) :
    ownerTakes i u = if u.diagEnabled n = true then startBlank n u else disableLine n u := by
  subst hi
  obtain ⟨k, hk⟩ := n
  unfold ownerTakes
  rw [dif_neg (by dsimp only; omega), if_neg (by dsimp only; omega), dif_pos (by dsimp only; omega)]
  simp

theorem ownerTakes_tank {i : Nat} (k : TankId) (hi : strapBase k ≤ i ∧ i < strapBase k + 25) (u : State) :
    ownerTakes i u = tableWritten k u := by
  have ht : tankOfItem i = some k := by
    unfold tankOfItem
    cases k <;> simp only [strapBase] at hi
    · rw [if_pos (by omega)]
    · rw [if_neg (by omega), if_pos (by omega)]
  have hr : 140 ≤ i ∧ i < 195 := by
    cases k <;> simp only [strapBase] at hi <;> omega
  unfold ownerTakes
  rw [dif_neg (by omega), if_neg (by omega), dif_neg (by omega), ht]

theorem entryOfItem_eq {i : Nat} (n : Fin 32) (hn : 16 ≤ n.val)
    (hi : 256 + 5 * (n.val - 16) ≤ i ∧ i < 261 + 5 * (n.val - 16)) : entryOfItem i = some n := by
  have hlt := n.isLt
  unfold entryOfItem
  rw [dif_pos (by omega)]
  exact congrArg some (Fin.ext (by dsimp only; omega))

theorem ownerTakes_entry {i : Nat} (n : Fin 32) (hn : 16 ≤ n.val)
    (hi : 256 + 5 * (n.val - 16) ≤ i ∧ i < 261 + 5 * (n.val - 16)) (u : State) : ownerTakes i u = judge n u := by
  have ht : tankOfItem i = none := by
    unfold tankOfItem
    rw [if_neg (by omega), if_neg (by omega)]
  unfold ownerTakes
  rw [dif_neg (by omega), if_neg (by omega), dif_neg (by omega), ht, entryOfItem_eq n hn hi]

theorem ownerTakes_pmax (u : State) : ownerTakes 100 u = pmaxWritten u := rfl

theorem entryOfItem_none {i : Nat} (hi : ¬ (256 ≤ i ∧ i < 336)) : entryOfItem i = none := dif_neg hi

theorem ownerTakes_other {i : Nat} (h1 : ¬ (20 ≤ i ∧ i < 32)) (h2 : i ≠ 100) (h3 : ¬ (220 ≤ i ∧ i < 230))
    (h4 : ¬ (140 ≤ i ∧ i < 165)) (h5 : ¬ (170 ≤ i ∧ i < 195)) (h6 : ¬ (256 ≤ i ∧ i < 336)) (u : State) :
    ownerTakes i u = u := by
  have ht : tankOfItem i = none := by
    unfold tankOfItem
    rw [if_neg h4, if_neg h5]
  unfold ownerTakes
  rw [dif_neg h1, if_neg h2, dif_neg h3, ht, entryOfItem_none h6]

/-! ## What each owner does -/

/-- Ps is brought within Pmax (R73). -/
theorem pmaxWritten_keeps {u : State} (h0 : NoticesTaken u) : WriteKeeps u (pmaxWritten u) ∧
    (pmaxWritten u).gov.ps = min u.gov.ps (u.cfg 100) ∧ (pmaxWritten u).disc = u.disc ∧
    (pmaxWritten u).tank = u.tank := by
  have h1 : ∀ f, (∀ g : Governor, (f g).work = g.work) → WriteKeeps u (u.modGov f) := fun f hf =>
    ⟨.modGov f u, rfl, rfl, rfl, hf _, by rw [State.modGov_ilk, h0]; simp⟩
  unfold pmaxWritten
  split
  · rename_i hlt
    have hps : min u.gov.ps (u.cfg 100) = u.cfg 100 := min_eq_right (le_of_lt hlt)
    rw [hps]
    dsimp only
    split
    · exact ⟨(h1 (fun g => { g with ps := u.cfg 100 }) fun _ => rfl).raise .governor, rfl, rfl, rfl⟩
    · exact ⟨h1 (fun g => { g with ps := u.cfg 100 }) fun _ => rfl, rfl, rfl, rfl⟩
  · rename_i hlt
    exact ⟨.refl h0, (min_eq_left (not_lt.1 hlt)).symm, rfl, rfl⟩

/-- A line whose diagnostics a write has turned off (R137). -/
theorem disableLine_keeps {n : Fin 10} {u : State} (h0 : NoticesTaken u) (he : u.diagEnabled n = false) :
    WriteKeeps u (disableLine n u) ∧ Unwatched n (disableLine n u) ∧ (disableLine n u).disc = u.disc ∧
      (disableLine n u).tank = u.tank ∧ (disableLine n u).gov.ps = u.gov.ps := by
  let f : OutputLine → OutputLine := fun l => { l with
    retryPhase := none, retryCount := 0, blank := none, mismatch := none, retry := none
    blankPending := false, diag := .ok }
  have hl : LineOnly n u (drive n (u.modLine n f)) := (LineOnly.of_modLine n f u).trans (drive_lineOnly n _)
  have hk := WriteKeeps.of_lineOnly hl h0
  have hun : Unwatched n (drive n (u.modLine n f)) := by
    refine drive_unwatched ?_
    rw [Unwatched, State.modLine_line_self]
    exact ⟨he, rfl, rfl, rfl⟩
  have hd := (Reacted.of_lineOnly hl).disc
  have ht := hl.tank
  have hg := hl.gov
  have heq : disableLine n u = if u.out.lines[n].diag.faulty = true
      then judge 12 (raise (.output n) (drive n (u.modLine n f))) else drive n (u.modLine n f) := rfl
  rw [heq]
  generalize drive n (u.modLine n f) = w at hk hun hd ht hg
  split
  · have hj := judge_judged 12 (raise (.output n) w)
    refine ⟨(hk.raise _).judge (by decide) (.inl ⟨rfl, rfl⟩), judge_unwatched 12 (s := raise (.output n) w) hun,
      hj.reacted.disc.trans hd, hj.tank.trans ht, ?_⟩
    rw [hj.bounds.ps, raise_gov, hg]
  · exact ⟨hk, hun, hd, ht, by rw [hg]⟩

/-- A line whose diagnostics a write has turned on (R137). -/
theorem startBlank_keeps (n : Fin 10) {u : State} (h0 : NoticesTaken u) (he : u.diagEnabled n = true) :
    WriteKeeps u (startBlank n u) ∧ (startBlank n u).disc = u.disc ∧ (startBlank n u).tank = u.tank ∧
      (startBlank n u).gov = u.gov ∧ (u.out.lines[n].diag.faulty = false →
        (startBlank n u).out.lines[n].diag = .blank ∧ (startBlank n u).out.lines[n].mismatch = none ∧
          (startBlank n u).out.lines[n].blank = some (u.blankTime n)) := by
  have hl := startBlank_lineOnly n u
  refine ⟨.of_lineOnly hl h0, (Reacted.of_lineOnly hl).disc, hl.tank, hl.gov, fun hf => ?_⟩
  unfold startBlank
  rw [he, hf]
  simp

/-- A line that is read under a new polarity (R22). -/
theorem rejudgeLine_keeps (n : Fin 12) {u : State} (h0 : NoticesTaken u) : WriteKeeps u (rejudgeLine n u) ∧
    (rejudgeLine n u).tank = u.tank ∧ (rejudgeLine n u).gov = u.gov ∧
    (∀ m : Fin 12, (rejudgeLine n u).disc[m] = if m = n then { u.disc[n] with
      debounce := if interpret u n u.disc[n].raw = u.disc[n].active then none else some (debounceTime u n) }
      else u.disc[m]) := by
  refine ⟨⟨.refl _, rfl, rfl, rfl, rfl, by rw [rejudgeLine, State.modSwitch_ilk, h0]; simp⟩, rfl, rfl, fun m => ?_⟩
  unfold rejudgeLine
  by_cases hm : m = n
  · subst hm
    simp
  · simp [hm, Fin.val_ne_of_ne (Ne.symm hm)]

/-- What a write of a strapping table makes of its tank (R101, R103, R104, R106). -/
def tabledTank (k : TankId) (u : State) : Tank :=
  { u.tankOf k with
    tableValid := pointsValid (strapPoints u k)
    reseed := (u.tankOf k).reseed || pointsValid (strapPoints u k)
    orderFault := (u.tankOf k).orderFault && pointsValid (strapPoints u k)
    vrep := clampInt (min (firstVolume u k) (lastVolume u k)) (max (firstVolume u k) (lastVolume u k))
      (u.tankOf k).vrep }

theorem tableWritten_keeps (k : TankId) {u : State} (h0 : NoticesTaken u) : WriteKeeps u (tableWritten k u) ∧
    (tableWritten k u).disc = u.disc ∧ (tableWritten k u).gov.ps = u.gov.ps ∧
    (tableWritten k u).tank = { u.tank with
      water := if k = .water then tabledTank .water u else u.tank.water
      foam := if k = .foam then tabledTank .foam u else u.tank.foam } := by
  let w := u.modTankOf k fun _ => tabledTank k u
  have hw : WriteKeeps u w := by
    cases k <;> exact ⟨.refl _, rfl, rfl, rfl, rfl, by rw [show w.ilk.notices = [] from h0]; simp⟩
  have heq : tableWritten k u = judge 11 w := by cases k <;> rfl
  have hj := judge_judged 11 w
  rw [heq]
  refine ⟨hw.judge (by decide) (.inl ⟨rfl, rfl⟩), hj.reacted.disc.trans (by cases k <;> rfl),
    hj.bounds.ps.trans (by cases k <;> rfl), hj.tank.trans (by cases k <;> rfl)⟩

end Sys2Proof.Machine
end

section
/-! PROOF. A taken write (R167, case 6): what the item's owner makes of it, and the write of a configurable entry, which
begins again from CLEAR (R36). -/

namespace Sys2Proof.Machine

/-! ## The old entry -/

/-- A configurable entry goes back to CLEAR, without a notice (R36). -/
theorem clearEntry_judged {n : Fin 32} (hn : n ≠ 0) (s : State) : Judged (· = n) s (clearEntry n s) ∧
    (clearEntry n s).ilk.entries[n].state = .clear ∧ (clearEntry n s).ilk.notices = s.ilk.notices := by
  have hl : Judged (· = n) s (leave n s) ∧ (leave n s).ilk.entries[n].state = .clear ∧
      (leave n s).ilk.notices = s.ilk.notices := by
    obtain ⟨c, hi⟩ := leave_ilk hn s
    refine ⟨leave_judged hn s, ?_, by rw [hi]⟩
    simp only [leave_entry hn s]
  unfold clearEntry
  split
  · exact ⟨.refl _ s, ‹_›, rfl⟩
  · refine ⟨modEntry_judged n _ (noStop_modEntry fun h => absurd h hn), ?_, rfl⟩
    simp only [State.modEntry_entry_self]
  · exact hl
  · exact hl

/-- The same write of the store on both sides. -/
theorem Reacted.modStore {s t : State} (h : Reacted s t) (f : Store → Store) :
    Reacted (s.modStore f) (t.modStore f) := by
  obtain ⟨h1, h2, h3, h4, h5, h6, h7, h8⟩ := h
  exact ⟨h1, h2, h3, h4, h5, h6, congrArg f h7, h8⟩

/-- The write of an entry's item, up to its owner's judgment. -/
theorem clearEntry_keeps {n : Fin 32} (hn : n ≠ 0) {s : State} (h0 : NoticesTaken s) (f : Store → Store) :
    let c := (clearEntry n s).modStore f
    WriteKeeps (s.modStore f) c ∧ c.ilk.entries[n].state = .clear ∧ c.disc = s.disc ∧ c.tank = s.tank ∧
      c.gov.ps = s.gov.ps := by
  obtain ⟨hj, hc, hn⟩ := clearEntry_judged hn s
  refine ⟨⟨?_, hj.mode, hj.pto, hj.bounds.hold, hj.bounds.work, ?_⟩, hc, hj.reacted.disc, hj.tank, hj.bounds.ps⟩
  · have hr := hj.reacted.modStore f
    rw [show ((clearEntry n s).modStore f).disc = s.disc from hj.reacted.disc,
      show ((clearEntry n s).modStore f).tank = s.tank from hj.tank]
    exact hr
  · rw [State.modStore_ilk, hn, h0]
    simp

/-- A judgment of an entry that stands in CLEAR (R37, R38). -/
theorem judge_entry_of_clear {n : Fin 32} {s : State} (h : s.ilk.entries[n].state = .clear) :
    (judge n s).ilk.entries[n].state =
      if effective s n = false then .clear else if entryDelay s n = 0 then .active else .pending := by
  simp only [judge_entry, entryMoved, h]
  cases effective s n
  · exact h
  · by_cases hd : entryDelay s n = 0 <;> simp [hd]

/-! ## What a write leaves -/

/-- What the owner of item `i` has made of `u`, which holds the new table. -/
structure Written (i : Nat) (u t : State) : Prop where
  keeps : WriteKeeps u t
  disc : ∀ n : Fin 12, t.disc[n] = if i = 20 + n.val ∧ u.disc[n].settled = true then
      { u.disc[n] with
        debounce := if interpret u n u.disc[n].raw = u.disc[n].active then none else some (debounceTime u n) }
    else u.disc[n]
  tank : t.tank = { u.tank with
    water := if 140 ≤ i ∧ i < 165 then tabledTank .water u else u.tank.water
    foam := if 170 ≤ i ∧ i < 195 then tabledTank .foam u else u.tank.foam }
  ps : t.gov.ps = if i = 100 then min u.gov.ps (u.cfg 100) else u.gov.ps
  diag : ∀ n : Fin 10, i = 220 + n.val → (u.diagEnabled n = false → Unwatched n t) ∧
    (u.diagEnabled n = true → u.out.lines[n].diag.faulty = false →
      t.out.lines[n].diag = .blank ∧ t.out.lines[n].mismatch = none ∧ t.out.lines[n].blank = some (u.blankTime n))
  entry : ∀ n : Fin 32, 16 ≤ n.val → 256 + 5 * (n.val - 16) ≤ i → i < 261 + 5 * (n.val - 16) →
    t.ilk.entries[n].state = if effective t n = false then .clear else if entryDelay t n = 0 then .active else .pending

/-- The end of the command leaves it. -/
theorem Written.settle {i : Nat} {u t : State} (h : Written i u t) : Written i u (settle t) := by
  have hi := settle_idled h.keeps.deaf
  generalize hv : Sys2Proof.Machine.settle t = v at hi
  have hout : v.out = t.out := hi.out
  have hdisc : v.disc = t.disc := hi.reacted.disc
  have hstore : v.store = t.store := hi.reacted.store
  have hmode : v.ilk.mode = t.ilk.mode := by rw [hi.ilk]; rfl
  refine ⟨hv ▸ h.keeps.settle, by rw [hdisc]; exact h.disc, hi.tank.trans h.tank, hi.ps.trans h.ps, fun n hn => ?_,
    fun n hn h1 h2 => ?_⟩
  · have hu : Unwatched n t → Unwatched n v := by
      intro hu
      rw [Unwatched, State.diagEnabled, State.cfg, hstore, hout]
      exact hu
    obtain ⟨hoff, hon⟩ := h.diag n hn
    exact ⟨fun hd => hu (hoff hd), by rw [hout]; exact hon⟩
  · rw [effective_configurable_congr hn hdisc hstore hmode, entryDelay_of_store hstore, ← h.entry n hn h1 h2]
    exact (congrArg Entry.state (hi.entry n) :)

/-- A line that is read under its new polarity. -/
theorem written_switch {i : Nat} (k : Fin 12) (hi : i = 20 + k.val) {u : State} (h0 : NoticesTaken u) :
    Written i u (ownerTakes i u) := by
  have hk := k.isLt
  have key : ∀ t : State, WriteKeeps u t → t.tank = u.tank → t.gov = u.gov →
      (∀ m : Fin 12, t.disc[m] = if m = k ∧ u.disc[k].settled = true then { u.disc[k] with
        debounce := if interpret u k u.disc[k].raw = u.disc[k].active then none else some (debounceTime u k) }
        else u.disc[m]) → Written i u t := by
    intro t hkeeps htank hgov hdisc
    refine ⟨hkeeps, fun n => ?_, ?_, by rw [hgov, if_neg (by omega)], fun n hn => by omega, fun n _ _ _ => by omega⟩
    · rw [hdisc]
      by_cases hnk : n = k
      · subst hnk
        simp only [hi, true_and]
      · have : ¬ i = 20 + n.val := fun h => hnk (Fin.ext (by omega))
        simp only [hnk, this, false_and, if_false]
    · rw [htank, if_neg (by omega), if_neg (by omega)]
  rw [ownerTakes_switch k hi]
  split
  · rename_i hs
    obtain ⟨h1, h2, h3, h4⟩ := rejudgeLine_keeps k h0
    refine key _ h1 h2 h3 fun m => (h4 m).trans ?_
    simp only [hs, and_true]
  · rename_i hs
    refine key _ (.refl h0) rfl rfl fun m => ?_
    rw [if_neg fun h => hs h.2]

/-- Ps under its new bound. -/
theorem written_pmax {u : State} (h0 : NoticesTaken u) : Written 100 u (ownerTakes 100 u) := by
  obtain ⟨h1, h2, h3, h4⟩ := pmaxWritten_keeps h0
  rw [ownerTakes_pmax]
  refine ⟨h1, fun n => ?_, h4, h2, fun n hn => by omega, fun n _ _ _ => by omega⟩
  have hn := n.isLt
  rw [h3, if_neg (by omega)]

/-- A line's diagnostics, turned on or off. -/
theorem written_diag {i : Nat} (k : Fin 10) (hi : i = 220 + k.val) {u : State} (h0 : NoticesTaken u) :
    Written i u (ownerTakes i u) := by
  have hk := k.isLt
  have key : ∀ t : State, WriteKeeps u t → t.disc = u.disc → t.tank = u.tank → t.gov.ps = u.gov.ps →
      ((u.diagEnabled k = false → Unwatched k t) ∧ (u.diagEnabled k = true → u.out.lines[k].diag.faulty = false →
        t.out.lines[k].diag = .blank ∧ t.out.lines[k].mismatch = none ∧
          t.out.lines[k].blank = some (u.blankTime k))) → Written i u t := by
    intro t hkeeps hdisc htank hps hdiag
    refine ⟨hkeeps, fun n => ?_, ?_, by rw [hps, if_neg (by omega)], fun n hn => ?_, fun n _ _ _ => by omega⟩
    · have hn := n.isLt
      rw [hdisc, if_neg (by omega)]
    · rw [htank, if_neg (by omega), if_neg (by omega)]
    · obtain rfl : n = k := Fin.ext (by omega)
      exact hdiag
  rw [ownerTakes_diag k hi]
  split
  · rename_i he
    obtain ⟨h1, h2, h3, h4, h5⟩ := startBlank_keeps k h0 he
    exact key _ h1 h2 h3 (by rw [h4]) ⟨fun h => absurd (he.symm.trans h) (by decide), fun _ => h5⟩
  · rename_i he
    obtain ⟨h1, h2, h3, h4, h5⟩ := disableLine_keeps h0 (Bool.not_eq_true _ ▸ he)
    exact key _ h1 h3 h4 h5 ⟨fun _ => h2, fun h => absurd h he⟩

/-- A tank with its new table. -/
theorem written_tank {i : Nat} (k : TankId) (hi : strapBase k ≤ i ∧ i < strapBase k + 25) {u : State}
    (h0 : NoticesTaken u) : Written i u (ownerTakes i u) := by
  have hrange : 140 ≤ i ∧ i < 195 := by cases k <;> simp only [strapBase] at hi <;> omega
  have hw : (140 ≤ i ∧ i < 165) = (k = .water) := by
    cases k <;> simp only [strapBase] at hi <;> simp <;> omega
  have hf : (170 ≤ i ∧ i < 195) = (k = .foam) := by
    cases k <;> simp only [strapBase] at hi <;> simp <;> omega
  obtain ⟨h1, h2, h3, h4⟩ := tableWritten_keeps k h0
  rw [ownerTakes_tank k hi]
  refine ⟨h1, fun n => ?_, by simp only [hw, hf]; exact h4, by rw [h3, if_neg (by omega)], fun n hn => by omega,
    fun n _ _ _ => by omega⟩
  have hn := n.isLt
  rw [h2, if_neg (by omega)]

/-- An item that is read at its owner's next judgment. -/
theorem written_other {i : Nat} (h1 : ¬ (20 ≤ i ∧ i < 32)) (h2 : i ≠ 100) (h3 : ¬ (220 ≤ i ∧ i < 230))
    (h4 : ¬ (140 ≤ i ∧ i < 165)) (h5 : ¬ (170 ≤ i ∧ i < 195)) (h6 : ¬ (256 ≤ i ∧ i < 336)) {u : State}
    (h0 : NoticesTaken u) : Written i u (ownerTakes i u) := by
  rw [ownerTakes_other h1 h2 h3 h4 h5 h6]
  refine ⟨.refl h0, fun n => ?_, by rw [if_neg h4, if_neg h5], by rw [if_neg h2], fun n hn => ?_, fun n hn _ _ => ?_⟩
  · have hn := n.isLt
    rw [if_neg (by omega)]
  · have := n.isLt
    omega
  · have := n.isLt
    omega

/-- A configurable entry that begins again, while the PTO is DISENGAGED. -/
theorem written_entry {i : Nat} (k : Fin 32) (hk : 16 ≤ k.val)
    (hi : 256 + 5 * (k.val - 16) ≤ i ∧ i < 261 + 5 * (k.val - 16)) {s : State} (h0 : NoticesTaken s)
    (hp : s.pto.state = .disengaged) (f : Store → Store) :
    Written i (s.modStore f) (ownerTakes i ((clearEntry k s).modStore f)) := by
  have hklt := k.isLt
  have hk0 : k ≠ 0 := by
    rintro rfl
    exact absurd hk (by decide)
  obtain ⟨h1, hc, hdisc, htank, hps⟩ := clearEntry_keeps hk0 h0 f
  rw [ownerTakes_entry k hk hi]
  generalize (clearEntry k s).modStore f = c at h1 hc hdisc htank hps
  have hj := judge_judged k c
  refine ⟨h1.judge hk0 (.inr (h1.pto.symm ▸ hp)), fun n => ?_, ?_, ?_, fun n hn => by omega, fun n hn h1 h2 => ?_⟩
  · have hn := n.isLt
    rw [hj.reacted.disc, hdisc, if_neg (by omega)]
    rfl
  · rw [if_neg (by omega), if_neg (by omega)]
    exact hj.tank.trans htank
  · rw [if_neg (by omega)]
    exact hj.bounds.ps.trans hps
  · obtain rfl : n = k := Fin.ext (by omega)
    rw [judge_entry_of_clear hc, effective_configurable_congr hn hj.reacted.disc hj.reacted.store hj.mode,
      entryDelay_of_store hj.reacted.store]

/-- A taken write (R167): entries' items are written while the PTO is DISENGAGED alone. -/
theorem takeWrite_written (i : Nat) (v : Half) {s : State} (h0 : NoticesTaken s)
    (hp : 256 ≤ i → i < 336 → s.pto.state = .disengaged) :
    Written i (s.modStore fun m => { m with live := tableSet m.live i v }) (takeWrite i v s) := by
  by_cases h6 : 256 ≤ i ∧ i < 336
  · have hk : entryOfItem i = some ⟨16 + (i - 256) / 5, by omega⟩ := dif_pos h6
    unfold takeWrite
    rw [hk]
    exact written_entry _ (by dsimp only; omega) (by dsimp only; omega) h0 (hp h6.1 h6.2) _
  · unfold takeWrite
    rw [entryOfItem_none h6]
    dsimp only
    generalize hu : (s.modStore fun m => { m with live := tableSet m.live i v }) = u
    have hu0 : NoticesTaken u := by
      rw [← hu]
      exact h0
    by_cases h1 : 20 ≤ i ∧ i < 32
    · exact written_switch ⟨i - 20, by omega⟩ (by dsimp only; omega) hu0
    by_cases h2 : i = 100
    · subst h2
      exact written_pmax hu0
    by_cases h3 : 220 ≤ i ∧ i < 230
    · exact written_diag ⟨i - 220, by omega⟩ (by dsimp only; omega) hu0
    by_cases h4 : 140 ≤ i ∧ i < 165
    · exact written_tank .water h4 hu0
    by_cases h5 : 170 ≤ i ∧ i < 195
    · exact written_tank .foam h5 hu0
    exact written_other h1 h2 h3 h4 h5 h6 hu0

end Sys2Proof.Machine
end

section
/-! PROOF. Write Setting (R167): its cases in their order, and the write that is taken. -/

namespace Sys2Proof.Machine

/-- Item 23 is none of the table's (R166). -/
theorem not_mem_itemNumbers_23 : 23 ∉ itemNumbers := by
  rw [mem_itemNumbers]
  decide

/-- The items of the configurable entries are written in PARKED with the PTO DISENGAGED alone (R36). -/
theorem parked_of_entryItem {i : Nat} (h1 : 256 ≤ i) (h2 : i < 336) {r : ItemSpec} (hr : itemSpec i = some r) :
    r.parked = true := by
  have he : entryItems[(i - 256) % 5]? = some r := by
    unfold itemSpec at hr
    simpa only [show ¬ i < 20 by omega, show ¬ i < 32 by omega, show ¬ i < 40 by omega, show ¬ i < 52 by omega,
      show ¬ i < 60 by omega, show ¬ i < 70 by omega, show ¬ i < 90 by omega, show ¬ i < 110 by omega,
      show ¬ i < 140 by omega, show ¬ i < 170 by omega, show ¬ i < 200 by omega, show ¬ i < 210 by omega,
      show ¬ i < 220 by omega, show ¬ i < 230 by omega, show ¬ i < 240 by omega, show ¬ i = 240 by omega,
      show ¬ i < 256 by omega, h2, if_false, if_true] using hr
  have hall : ∀ r ∈ entryItems, r.parked = true := by decide
  exact hall r (List.mem_of_getElem? he)

/-- Before a write is taken, the new table reads as the relation of R167 has it. -/
theorem SettingsLaw.new_table {s : State} (h : SettingsLaw s) (hl : s.store.live ≠ []) {i : Nat}
    (hi : i ∈ itemNumbers) (v : Half) :
    (fun j => itemValue j (tableValue (tableSet s.store.live i v) j)) =
      fun j => if j = i then itemValue i v else s.cfg j := by
  funext j
  by_cases hj : j = i
  · subst hj
    rw [if_pos rfl, tableValue_tableSet_self (by rwa [h.keys hl])]
  · rw [if_neg hj, tableValue_tableSet_other hj]
    rfl

/-- A refused request answers the part that has heard it (R167, cases 1 to 5). -/
theorem serve_refuses {h : Header} {s : State} {kind : Nat} {body : Body} {r : Result} (hr : Receives h s)
    (hb : body (stationOf h.port h.origin) h.port (heard h s) = unchanged (heard h s) r) :
    serve h kind false body s = answered h kind r [] (heard h s) := by
  have h0 : (heard h s).ilk.notices = [] := by
    rw [heard_reacted_fields]
    exact hr.2.2.2
  have hs := settle_of_no_notice _ h0
  have := serve_answered (kind := kind) (t := heard h s) (r := r) (d := []) hr hb (by rw [hs]; exact heard_reply h s)
  rwa [hs] at this

/-- Write Setting's body in the order of R167: what it answers to an item that the table names. -/
theorem bodyWriteSetting_eq {item value : Half} {r : ItemSpec} (hr : itemSpec item.toNat = some r) (p : Port)
    (s : State) : bodyWriteSetting item value .service p s =
      if r.parked = true ∧ (s.ilk.mode ≠ .parked ∨ s.pto.state ≠ .disengaged) then unchanged s .notPermitted
      else if r.domain.contains (itemValue item.toNat value) = false ∨ writeRelated s item.toNat value = false then
        unchanged s .badValue
      else (takeWrite item.toNat value s, .bare .ok) := by
  unfold bodyWriteSetting
  rw [if_neg (by simp)]
  simp only [hr]
  split
  · rfl
  · cases r.domain.contains (itemValue item.toNat value) <;> cases writeRelated s item.toNat value <;> rfl

/-- A switch line under the polarity that its item holds (R22). -/
theorem interpret_of_polarity {w : State} {n : Fin 12} (hn : 20 + n.val ∈ itemNumbers) (c : Contact) :
    interpret w n c = (c == if w.cfg (20 + n.val) = 0 then Contact.closed else .opened) := by
  unfold interpret
  rw [if_neg (by rintro rfl; exact not_mem_itemNumbers_23 hn)]
  split <;> rfl

theorem debounceTime_of_item {w : State} {n : Fin 12} (hn : 20 + n.val ∈ itemNumbers) :
    debounceTime w n = ms (w.cfgN (40 + n.val)) := by
  unfold debounceTime
  rw [if_neg (by rintro rfl; exact not_mem_itemNumbers_23 hn)]

/-- Settles O59: the cases of R167 are those of `bodyWriteSetting`, and a write that is taken is `Written`. -/
theorem writeSettingIsJudged : Obligations.WriteSettingIsJudged := by
  intro h item value s hrec hset hlive hact hstop i v table new spec u tabled
  obtain ⟨a, l, hw⟩ : ∃ a l, heard h s = { s with auth := a, links := l } := ⟨_, _, heard_reacted_fields h s⟩
  have h0 : NoticesTaken (heard h s) := by
    rw [hw]
    exact hrec.2.2.2
  have hexec : exec (.writeSetting h item value) s = .next (serve h 80 false (bodyWriteSetting item value) s) := rfl
  have hrefuse : ∀ r, bodyWriteSetting item value (stationOf h.port h.origin) h.port (heard h s) =
      unchanged (heard h s) r → Refuses (.writeSetting h item value) h 80 r s := fun r hb =>
    hexec.trans (congrArg Host.Outcome.next (serve_refuses hrec hb))
  by_cases hst : stationOf h.port h.origin = .service
  swap
  · rw [if_pos hst]
    exact hrefuse _ (if_pos hst)
  rw [if_neg (not_not.2 hst)]
  by_cases hi : i ∈ itemNumbers
  swap
  · rw [if_pos hi]
    refine hrefuse _ ?_
    rw [mem_itemNumbers, Option.not_isSome_iff_eq_none] at hi
    unfold bodyWriteSetting
    rw [if_neg (not_not.2 hst)]
    simp only [show itemSpec item.toNat = none from hi]
  rw [if_neg (not_not.2 hi)]
  obtain ⟨r, hr⟩ := Option.isSome_iff_exists.1 (mem_itemNumbers.1 hi)
  have hspec : spec = r := by
    simp only [spec, hr]
    rfl
  have hbody := bodyWriteSetting_eq hr h.port (heard h s) (value := value)
  have hnew : relationKept new i = writeRelated (heard h s) i value := by
    rw [hw]
    exact congrArg (relationKept · i) (hset.new_table hlive hi value)
  rw [← hst, ← hnew, hw] at hbody
  rw [hspec]
  by_cases hpark : r.parked = true ∧ (s.ilk.mode ≠ .parked ∨ s.pto.state ≠ .disengaged)
  · rw [if_pos hpark]
    refine hrefuse _ ?_
    rw [hw]
    exact hbody.trans (if_pos hpark)
  rw [if_neg hpark]
  by_cases hbad : r.domain.contains v = false ∨ relationKept new i = false
  · rw [if_pos hbad]
    refine hrefuse _ ?_
    rw [hw]
    exact hbody.trans ((if_neg hpark).trans (if_pos hbad))
  rw [if_neg hbad]
  have hb := hbody.trans ((if_neg hpark).trans (if_neg hbad))
  rw [← hw] at hb
  have hdis : 256 ≤ i → i < 336 → (heard h s).pto.state = .disengaged := by
    intro h1 h2
    rw [hw]
    by_contra hne
    exact hpark ⟨parked_of_entryItem h1 h2 hr, .inr hne⟩
  have hwr := (takeWrite_written i value h0 hdis).settle
  have hreply : ((settle (takeWrite i value (heard h s))).port h.port).reply = none :=
    (hwr.keeps.reacted.port h.port).reply.trans (heard_reply h s)
  refine ⟨_, hexec.trans (congrArg Host.Outcome.next (serve_answered hrec hb hreply)), ?_⟩
  have hself : tableValue table i = value := tableValue_tableSet_self (by rw [hset.keys hlive]; exact hi) value
  generalize hT : settle (takeWrite i value (heard h s)) = t at hwr
  obtain ⟨⟨hreact, hmode, hpto, hhold, hwork, -⟩, hdisc, htank, hps, hdiag, hentry⟩ := hwr
  rw [hw] at hreact hmode hpto hhold hwork hdisc htank hps hdiag
  have hother : ∀ {j : Nat}, j ≠ i → u.cfgN j = s.cfgN j := fun hj =>
    congrArg BitVec.toNat (tableValue_tableSet_other hj s.store.live value)
  have hcfg : u.cfg i = v := congrArg (itemValue i) hself
  have hstore : t.store = { s.store with live := table } := hreact.store
  refine ⟨hstore, by rw [hstore]; exact hself, fun j _ hj => ?_, ?_, htank, hmode, hpto, hhold, hwork, fun n => ?_,
    fun h100 => ?_, fun h100 => hps.trans (if_neg h100), fun n hn => ⟨fun hv => ?_, fun hv hf => ?_⟩, hentry⟩
  · rw [hstore]
    exact tableValue_tableSet_other hj _ _
  · rw [hw, hstore]
    exact hreact
  · refine (hdisc n).trans ?_
    by_cases hn : i = 20 + n.val ∧ s.disc[n].settled = true
    · have hin : 20 + n.val ∈ itemNumbers := hn.1 ▸ hi
      have hread : interpret u n s.disc[n].raw = (s.disc[n].raw == if v = 0 then Contact.closed else .opened) := by
        rw [interpret_of_polarity hin, ← hn.1, hcfg]
      have htime : debounceTime u n = ms (s.cfgN (40 + n.val)) := by
        rw [debounceTime_of_item hin, hother (by omega)]
      refine (if_pos hn).trans (Eq.trans ?_ (if_pos hn).symm)
      rw [← hread, ← htime]
      rfl
    · exact (if_neg hn).trans (if_neg hn).symm
  · rw [← hcfg, h100]
    exact hps.trans (if_pos h100)
  · obtain ⟨-, h2, h3, h4⟩ := (hdiag n hn).1 (by
      change (u.cfg (220 + n.val) == 1) = false
      rw [← hn, hcfg, hv]
      rfl)
    exact ⟨h2, h3, h4⟩
  · obtain ⟨h1, h2, h3⟩ := (hdiag n hn).2 (by
      change (u.cfg (220 + n.val) == 1) = true
      rw [← hn, hcfg, hv]
      rfl) hf
    refine ⟨h1, h2, h3.trans ?_⟩
    rw [← hother (by omega)]
    rfl

end Sys2Proof.Machine
end

section
/-! PROOF. One sample of an analog channel (R16 to R18), and measurements that come between a publication's answers. -/

namespace Sys2Proof.Machine

/-! ## The channel -/

/-- The unit's own reading of a sample is the statement's: the newest four counts, their mean, and the run of ten. -/
theorem AnalogChannel.sample_eq (c : AnalogChannel) (x : Count) (lo hi : Nat) (scaled : Nat → Int) (flagged : Bool) :
    c.sample x lo hi scaled flagged = sampledChannel c x lo hi scaled flagged := by
  have hlist : (c.samples ++ [x]).drop ((c.samples ++ [x]).length - 4) =
      ((x :: c.samples.reverse).take 4).reverse := by
    rw [List.reverse_take, List.reverse_cons, List.reverse_reverse, ← List.length_reverse, List.reverse_append]
    rfl
  have hsum : ∀ l : List Count, (l.map BitVec.toNat).sum = l.foldl (fun sum y => sum + y.toNat) 0 := by
    intro l
    rw [List.sum_eq_foldl, List.foldl_map]
  have htaken : (min 10 (c.taken + 1) == 10) = decide (9 ≤ c.taken) := by
    by_cases h : 9 ≤ c.taken
    · rw [decide_eq_true h, beq_iff_eq]
      omega
    · rw [decide_eq_false h]
      exact beq_false_of_ne (by omega)
  unfold AnalogChannel.sample sampledChannel
  dsimp only
  rw [hlist, hsum, htaken]
  generalize ((x :: c.samples.reverse).take 4).reverse = l
  generalize l.foldl (fun sum y => sum + y.toNat) 0 / l.length = m
  generalize (decide (lo ≤ m) && decide (m ≤ hi)) = inBand
  by_cases hb : inBand = c.valid
  · subst hb
    simp
  · have hv : inBand = !c.valid := by
      revert hb
      cases inBand <;> cases c.valid <;> decide
    have hne : ¬ c.valid = inBand := fun h => hb h.symm
    by_cases h9 : 9 ≤ c.run
    · simp [h9, hv]
    · simp [hb, hne, h9]

/-! ## Measurements -/

section
variable {s t : State} (h : Reacted s t)
include h

/-- The same measurement on both sides. -/
theorem Reacted.modAnalog (f : Analog → Analog) : Reacted (s.modAnalog f) (t.modAnalog f) := by
  obtain ⟨h1, h2, h3, h4, h5⟩ := h
  exact ⟨h1, h2, h3, congrArg f h4, h5⟩

theorem Reacted.modReseed (k : TankId) (f : Bool → Bool) :
    Reacted (s.modTankOf k fun x => { x with reseed := f x.reseed })
      (t.modTankOf k fun x => { x with reseed := f x.reseed }) := by
  obtain ⟨h1, h2, h3, h4, h5, h6, h7, h8, h9, h10, hw, hf, h11⟩ := h
  cases k
  · exact ⟨h1, h2, h3, h4, h5, h6, h7, h8, h9, h10,
      congrArg (fun x : Tank => { x with reseed := f x.reseed }) hw, hf, h11⟩
  · exact ⟨h1, h2, h3, h4, h5, h6, h7, h8, h9, h10, hw,
      congrArg (fun x : Tank => { x with reseed := f x.reseed }) hf, h11⟩

theorem Reacted.modExternal (e : Bool) : Reacted (s.modTank fun m => { m with external := e })
    (t.modTank fun m => { m with external := e }) := by
  obtain ⟨h1, h2, h3, h4, h5, h6, h7, h8, h9, h10, h11, h12, h13, -, h14⟩ := h
  exact ⟨h1, h2, h3, h4, h5, h6, h7, h8, h9, h10, h11, h12, h13, rfl, h14⟩

theorem Reacted.dropRuns : Reacted (dropRuns s) (dropRuns t) := by
  obtain ⟨h1, h2, h3, h4, h5, h6, h7, h8, h9, h10, h11⟩ := h
  exact ⟨h1, h2, h3, h4, h5, h6, h7, h8, h9,
    congrArg (fun ps => ps.map fun p => { p with candidate := none, run := 0 }) h10, h11⟩

end

end Sys2Proof.Machine
end

section
/-! PROOF. Publications that move neither the mode nor the PTO (R43, R44, R128): the lines take commands of one level each,
and an entry that joins gives its notice. -/

namespace Sys2Proof.Machine

/-! ## The levels of one event -/

/-- The commands of an event in which line `n` is commanded to the level `g n` alone, if at all; ALARM takes either. -/
def LevelCommand (g : Fin 10 → Option Bool) (n : Fin 10) (on : Bool) : Prop :=
  g n = some on ∨ n = alarmLine

theorem Commanded.mono {K L : Fin 10 → Bool → Prop} {s t : State} (h : Commanded K s t)
    (hKL : ∀ n on, K n on → L n on) : Commanded L s t := by
  induction h with
  | of_out h => exact .of_out h
  | command s hk => exact .command s (hKL _ _ hk)
  | trans _ _ h k => exact h.trans k

/-- The interlock unit's lines have in `g` the levels that the list gives them (R49, R50). -/
def Levelled (g : Fin 10 → Option Bool) (s : State) : Prop :=
  g driveEn = some (permit s) ∧ g thrLimit = some (inForce s (·.limitRoad))

theorem inForce_congr {s t : State} (ha : t.ilk.active = s.ilk.active) (hs : t.store = s.store)
    (act : ActionSet → Bool) : inForce t act = inForce s act := by
  simp only [inForce, ha, entryActions_of_store hs]

theorem Levelled.congr {g : Fin 10 → Option Bool} {s t : State} (h : Levelled g s) (hm : t.ilk.mode = s.ilk.mode)
    (ha : t.ilk.active = s.ilk.active) (hs : t.store = s.store) : Levelled g t := by
  rw [Levelled, permit_congr hm ha hs, inForce_congr ha hs]
  exact h

/-- Entries without an action leave it in force as it was (R43). -/
theorem Judged.inForce_eq {N : Fin 32 → Prop} {s t : State} (h : Judged N s t) {act : ActionSet → Bool}
    (hN : ∀ n, N n → act (entryActions s n) = false) : inForce t act = inForce s act := by
  have key : ∀ n, (n ∈ t.ilk.active ∧ act (entryActions t n) = true) ↔
      (n ∈ s.ilk.active ∧ act (entryActions s n) = true) := by
    intro n
    rw [entryActions_of_store h.reacted.store]
    by_cases hn : N n
    · rw [hN n hn]
      simp
    · rw [h.listed n hn]
  rw [Bool.eq_iff_iff, inForce, inForce, List.any_eq_true, List.any_eq_true]
  exact exists_congr key

/-- Such entries leave the levels of the interlock unit's lines. -/
theorem Judged.levelled {N : Fin 32 → Prop} {g : Fin 10 → Option Bool} {s t : State} (h : Judged N s t) (hg : Levelled g s)
    (hN : ∀ n, N n → (entryActions s n).inhibitDrive = false ∧ (entryActions s n).limitRoad = false) :
    Levelled g t := by
  rw [Levelled, permit, h.mode, h.inForce_eq fun n hn => (hN n hn).1, h.inForce_eq fun n hn => (hN n hn).2]
  exact hg

/-! ## A judgment's commands -/

theorem alarmJudge_commanded (g : Fin 10 → Option Bool) (s : State) : Commanded (LevelCommand g) s (alarmJudge s) := by
  have hc : ∀ (on : Bool) (u : State), u.out = s.out → Commanded (LevelCommand g) s (command alarmLine on u) :=
    fun on u hu => (Commanded.of_out hu).trans (.command u (.inr rfl))
  unfold alarmJudge
  split
  · exact hc _ _ rfl
  · exact hc _ _ rfl
  · exact .refl s

/-- A changed list commands the lines to the levels it gives. -/
theorem listChanged_commanded {g : Fin 10 → Option Bool} (before : ActionSet) {s : State} (hg : Levelled g s) :
    Commanded (LevelCommand g) s (listChanged before s) := by
  have h1 : Commanded (LevelCommand g) s (command driveEn (permit s) s) := .command s (.inl hg.1)
  have h2 : ∀ u : State, u.ilk.active = s.ilk.active → u.store = s.store →
      Commanded (LevelCommand g) u (command thrLimit (inForce u (·.limitRoad)) u) := fun u ha hs =>
    .command u (.inl (by rw [inForce_congr ha hs]; exact hg.2))
  have hl := command_lineOnly driveEn (permit s) s
  have h3 : Commanded (LevelCommand g) s (alarmJudge (interlockLines s)) :=
    (h1.trans (h2 _ (by rw [hl.ilk]) (Reacted.of_lineOnly hl).store)).trans (alarmJudge_commanded g _)
  unfold listChanged
  dsimp only
  split
  · exact h3
  · exact h3.trans (.of_out (rejudgeBounds_idled _).out)

theorem judge_commanded {g : Fin 10 → Option Bool} {n : Fin 32} {s : State} (hg : Levelled g s)
    (hn : (entryActions s n).inhibitDrive = false ∧ (entryActions s n).limitRoad = false) :
    Commanded (LevelCommand g) s (judge n s) := by
  have key : ∀ (b : ActionSet) (w t : State), w.out = s.out → Levelled g w → t.out = (listChanged b w).out →
      Commanded (LevelCommand g) s t := fun b w t hw hgw ht =>
    (Commanded.of_out hw).trans ((listChanged_commanded b hgw).trans (.of_out ht))
  have hlev : Levelled g (judge n s) := (judge_judged n s).levelled hg fun m hm => by rw [hm]; exact hn
  unfold judge at hlev ⊢
  split at hlev
  · split at hlev
    · obtain ⟨c, hi⟩ := join_ilk n s
      rw [if_pos ‹_›]
      refine key (actionsInForce s) (raise (.lockout n) ((s.modEntry n fun _ => ⟨.active, none, false⟩).modIlk fun k =>
        { k with active := k.active ++ [n] })) _ rfl (hlev.congr (by rw [hi]; rfl) (by rw [hi]; rfl)
          (join_reacted n s).store.symm) ?_
      unfold join
      dsimp only
      split <;> rfl
    · rw [if_neg ‹_›]
      exact .of_out rfl
  · exact .of_out rfl
  · split at hlev
    · rw [if_pos ‹_›]
      exact .of_out rfl
    · have h0 : n ≠ 0 := ne_zero_of_not_latches ‹_›
      obtain ⟨c, hi⟩ := leave_ilk h0 s
      rw [if_neg ‹_›]
      refine key (actionsInForce s) (raise (.lockout n) ((s.modEntry n fun _ => ⟨.clear, none, false⟩).modIlk fun k =>
        { k with active := k.active.filter fun m => m != n })) _ rfl (hlev.congr (by rw [hi]; rfl) (by rw [hi]; rfl)
          (leave_reacted n s).store.symm) ?_
      unfold leave
      dsimp only
      rw [if_neg h0]
  · exact .of_out rfl
  · exact .refl s

/-! ## Steps of the event -/

/-- `t` is `s` after judgments of entries of `N` that give the notices `new`, and commands of the levels `g`, while the
measurements may move. -/
structure Steady (g : Fin 10 → Option Bool) (N : Fin 32 → Prop) (new : List Notice) (s t : State) : Prop where
  levels : Levelled g t
  mode : t.ilk.mode = s.ilk.mode
  pto : t.pto = s.pto
  entries : ∀ m : Fin 32, ¬ N m → t.ilk.entries[m] = s.ilk.entries[m]
  notices : t.ilk.notices = s.ilk.notices ++ new
  lines : Commanded (LevelCommand g) s t
  bounds : Rebounded s t
  primer : t.tank.priming = s.tank.priming ∧ t.tank.primeTimer = s.tank.primeTimer

section
variable {g : Fin 10 → Option Bool} {N : Fin 32 → Prop}

theorem Steady.trans {a b : List Notice} {s t u : State} (h : Steady g N a s t) (k : Steady g N b t u) :
    Steady g N (a ++ b) s u where
  levels := k.levels
  mode := k.mode.trans h.mode
  pto := k.pto.trans h.pto
  entries := fun m hm => (k.entries m hm).trans (h.entries m hm)
  notices := by rw [k.notices, h.notices, List.append_assoc]
  lines := h.lines.trans k.lines
  bounds := h.bounds.trans k.bounds
  primer := ⟨k.primer.1.trans h.primer.1, k.primer.2.trans h.primer.2⟩

theorem Steady.mono {M : Fin 32 → Prop} {a : List Notice} {s t : State} (h : Steady g N a s t)
    (hNM : ∀ n, N n → M n) : Steady g M a s t :=
  { h with entries := fun m hm => h.entries m fun hn => hm (hNM m hn) }

/-- A measurement is no judgment. -/
theorem Steady.of_same {s t : State} (hg : Levelled g s) (hi : t.ilk = s.ilk) (hp : t.pto = s.pto)
    (ho : t.out = s.out) (hgov : t.gov = s.gov) (hl : t.links = s.links) (hs : t.store = s.store)
    (ht : t.tank.priming = s.tank.priming ∧ t.tank.primeTimer = s.tank.primeTimer) : Steady g N [] s t where
  levels := hg.congr (by rw [hi]) (by rw [hi]) hs
  mode := by rw [hi]
  pto := hp
  entries := fun _ _ => by rw [hi]
  notices := by rw [hi, List.append_nil]
  lines := .of_out ho
  bounds := .of_eq hgov (by rw [ho]) (.of_links hl)
  primer := ht

theorem Steady.refl {s : State} (hg : Levelled g s) : Steady g N [] s s :=
  .of_same hg rfl rfl rfl rfl rfl rfl ⟨rfl, rfl⟩

/-- A command of the event. -/
theorem command_steady {n : Fin 10} {on : Bool} {s : State} (hg : Levelled g s) (hn : LevelCommand g n on) :
    Steady g N [] s (command n on s) := by
  have hl := command_lineOnly n on s
  exact
    { levels := hg.congr (by rw [hl.ilk]) (by rw [hl.ilk]) (Reacted.of_lineOnly hl).store
      mode := by rw [hl.ilk]
      pto := hl.pto
      entries := fun _ _ => by rw [hl.ilk]
      notices := by rw [hl.ilk, List.append_nil]
      lines := .command s hn
      bounds := .of_eq hl.gov hl.hold (.of_links hl.links)
      primer := by rw [hl.tank]; exact ⟨rfl, rfl⟩ }

end

theorem judge_steady {g : Fin 10 → Option Bool} {n : Fin 32} {s : State} (hg : Levelled g s)
    (hn : (entryActions s n).inhibitDrive = false ∧ (entryActions s n).limitRoad = false) :
    Steady g (· = n) (if joinsAt n s then noticeOf n s else []) s (judge n s) := by
  have hj := judge_judged n s
  exact
    { levels := hj.levelled hg fun m hm => by rw [hm]; exact hn
      mode := hj.mode
      pto := hj.pto
      entries := hj.entries
      notices := judge_notices n s
      lines := judge_commanded hg hn
      bounds := hj.bounds
      primer := by rw [hj.tank]; exact ⟨rfl, rfl⟩ }

/-- A sensor fault's judgment gives no notice (R34). -/
theorem judge_sensor {g : Fin 10 → Option Bool} {s : State} (hg : Levelled g s) : Steady g (· = 11) [] s (judge 11 s) := by
  have h := judge_steady (n := 11) hg ⟨rfl, rfl⟩
  rwa [show noticeOf 11 s = [] from rfl, ite_self] at h

end Sys2Proof.Machine
end

section
/-! PROOF. The publications of a sample expiry (R16, R18, R88 to R91, R103, R113, R123), channel by channel. -/

namespace Sys2Proof.Machine

variable {g : Fin 10 → Option Bool} {s : State}

/-! ## DIS -/

theorem governorOnDis_of_kept (h : s.analog.dis.valid = true ∨ s.gov.state ≠ .pressure) : governorOnDis s = s := by
  unfold governorOnDis
  split
  · rename_i hp _
    rw [if_pos (h.resolve_right fun hn => hn hp)]
  · rfl

/-- An INVALID DIS makes PRESSURE fall back to SPEED at D (R88). -/
theorem governorOnDis_fallback {d : Int} (hv : s.analog.dis.valid = false) (hp : s.gov.state = .pressure)
    (hd : s.gov.demand = some d) : governorOnDis s =
      raise .governor (s.modGov fun k => { k with state := .speed, ns := d, fallback := true }) := by
  unfold governorOnDis
  simp only [hp, hd, hv]
  rfl

/-- What the fallback leaves. -/
theorem governorOnDis_rest (s : State) : (governorOnDis s).ilk = s.ilk ∧ (governorOnDis s).pto = s.pto ∧
    (governorOnDis s).out = s.out ∧ (governorOnDis s).store = s.store ∧ (governorOnDis s).tank = s.tank ∧
    (governorOnDis s).analog = s.analog ∧ (governorOnDis s).gov.casingHot = s.gov.casingHot := by
  unfold governorOnDis
  split
  · split <;> exact ⟨rfl, rfl, rfl, rfl, rfl, rfl, rfl⟩
  · exact ⟨rfl, rfl, rfl, rfl, rfl, rfl, rfl⟩

/-- The prime timer under a publication of DIS (R123). -/
def primeTimerAfter (s : State) : Timer :=
  if s.tank.priming then (if primePressure s then some (s.tank.primeTimer.getD 1000000) else none)
  else s.tank.primeTimer

theorem primerOnDis_eq (s : State) :
    primerOnDis s = s.modTank fun m => { m with primeTimer := primeTimerAfter s } := by
  have hself : ∀ x : Timer, s.tank.primeTimer = x → s = s.modTank fun m => { m with primeTimer := x } := by
    intro x hx
    unfold State.modTank
    rw [← hx]
  unfold primerOnDis primeTimerAfter
  cases hp : s.tank.priming
  · exact hself _ rfl
  · cases hpp : primePressure s
    · rfl
    · cases ht : s.tank.primeTimer
      · rfl
      · exact hself _ ht

/-- What the blocks take of DIS before entry 11 is judged. -/
def disTaken (s : State) : State := primerOnDis (governorOnDis s)

theorem disPublished_steady (hg : Levelled g s) : Steady g (· = 11) [] (disTaken s) (disPublished s) := by
  obtain ⟨hi, -, -, hs, -⟩ := governorOnDis_rest s
  refine judge_sensor ?_
  unfold disTaken
  rw [primerOnDis_eq]
  exact hg.congr (by rw [State.modTank_ilk, hi]) (by rw [State.modTank_ilk, hi]) hs

/-! ## INT -/

theorem modTank_steady {N : Fin 32 → Prop} (hg : Levelled g s) (f : TankMonitor → TankMonitor)
    (hf : (f s.tank).priming = s.tank.priming ∧ (f s.tank).primeTimer = s.tank.primeTimer) :
    Steady g N [] s (s.modTank f) := .of_same hg rfl rfl rfl rfl rfl rfl hf

theorem reconJudge_steady {N : Fin 32 → Prop} (hg : Levelled g s) : Steady g N [] s (reconJudge false s) := by
  unfold reconJudge
  split
  · exact modTank_steady hg _ ⟨rfl, rfl⟩
  · exact modTank_steady hg _ ⟨rfl, rfl⟩
  · exact .refl hg

theorem raiseFill_steady {N : Fin 32 → Prop} (hg : Levelled g s) : Steady g N [] s (raise .fill s) where
  levels := hg
  mode := rfl
  pto := rfl
  entries := fun _ _ => rfl
  notices := (List.append_nil _).symm
  lines := .of_out rfl
  bounds := .of_eq rfl rfl ((raise_keepsReports _ s).mono fun _ hk => by rw [hk]; simp)
  primer := ⟨rfl, rfl⟩

theorem setFill_steady {N : Fin 32 → Prop} {on : Bool} (hg : Levelled g s) (hf : g fillValve = some on) :
    Steady g N [] s (setFill on s) := by
  unfold setFill
  split
  · exact .refl hg
  · have hc : Steady g N [] s (command fillValve on s) :=
      command_steady hg (.inl hf)
    generalize command fillValve on s = u at hc
    have hw : ∀ w, Steady g N [] u w → Steady g N [] s (reconJudge false w) := fun w h =>
      (hc.trans h).trans (reconJudge_steady h.levels)
    dsimp only
    split
    · exact hw _ (modTank_steady hc.levels _ ⟨rfl, rfl⟩)
    · exact hw _ (modTank_steady hc.levels _ ⟨rfl, rfl⟩)

theorem fillJudge_steady {N : Fin 32 → Prop} (hg : Levelled g s) (hf : g fillValve = some (fillTarget s.tank.levelVrep s)) :
    Steady g N [] s (fillJudge s) := by
  have key : ∀ (u : State) (c : Bool), Steady g N [] s u → Steady g N [] s
      (if c = true then raise .fill (setFill (fillTarget s.tank.levelVrep s) u)
        else setFill (fillTarget s.tank.levelVrep s) u) := by
    intro u c hu
    have h := hu.trans (setFill_steady (N := N) hu.levels hf)
    cases c
    · exact h
    · exact h.trans (raiseFill_steady h.levels)
  unfold fillJudge fillJudgeOn
  refine key _ _ ?_
  split
  · exact modTank_steady hg _ ⟨rfl, rfl⟩
  · exact .refl hg

/-- The join notice of a judgment. -/
def noticesAt (n : Fin 32) (s : State) : List Notice := if joinsAt n s then noticeOf n s else []

/-- The level that R119 gives FILL_VALVE where external supply changes. -/
def fillLevel (s : State) : Bool :=
  fillTarget (judge 8 s).tank.levelVrep (judge 8 s)

/-- A change of external supply (R113, R115). -/
theorem externalPublished_steady (hg : Levelled g s) (hf : g fillValve = some (fillLevel s)) :
    Steady g (· = 8) (noticesAt 8 s) s (externalPublished s) ∧
      (externalPublished s).ilk.entries[(8 : Fin 32)] =
        entryMoved s.ilk.entries[(8 : Fin 32)] (effective s 8) 0 false := by
  have h1 : Steady g (· = 8) (noticesAt 8 s) s (judge 8 s) := judge_steady hg ⟨rfl, rfl⟩
  have h2 : Steady g (fun _ => False) [] (judge 8 s) (fillJudge (judge 8 s)) := fillJudge_steady h1.levels hf
  have h3 : Steady g (fun _ => False) [] _ (reconJudge false (fillJudge (judge 8 s))) := reconJudge_steady h2.levels
  have h4 := h2.trans h3
  refine ⟨?_, (h4.entries 8 id).trans (judge_entry 8 s)⟩
  have h := h1.trans (h4.mono fun _ h => h.elim)
  rwa [List.append_nil, List.append_nil] at h

/-- INT is published: external supply, then entry 11. -/
theorem intPublished_steady (hg : Levelled g s)
    (hf : g fillValve = some (fillLevel (s.modTank fun m => { m with external := externalNow s }))) :
    let u := s.modTank fun m => { m with external := externalNow s }
    Steady g (fun n => n = 8 ∨ n = 11) (if externalNow s = s.tank.external then [] else noticesAt 8 u) s
        (intPublished s) ∧
      (intPublished s).ilk.entries[(8 : Fin 32)] = if externalNow s = s.tank.external then s.ilk.entries[(8 : Fin 32)]
        else entryMoved s.ilk.entries[(8 : Fin 32)] (effective u 8) 0 false := by
  dsimp only
  unfold intPublished
  dsimp only
  split
  · have h := judge_sensor hg
    exact ⟨h.mono fun _ h => .inr h, h.entries 8 (by decide)⟩
  · have h1 : Steady g (fun n => n = 8 ∨ n = 11) [] s (s.modTank fun m => { m with external := externalNow s }) :=
      modTank_steady hg _ ⟨rfl, rfl⟩
    obtain ⟨h2, h3⟩ := externalPublished_steady h1.levels hf
    have h4 := judge_sensor h2.levels
    refine ⟨?_, (h4.entries 8 (by decide)).trans h3⟩
    have h := (h1.trans (h2.mono fun _ h => .inl h)).trans (h4.mono fun _ h => .inr h)
    rwa [List.append_nil, List.nil_append] at h

theorem intPublished_reacted (s : State) :
    Reacted (s.modTank fun m => { m with external := externalNow s }) (intPublished s) := by
  unfold intPublished
  dsimp only
  split
  · rename_i he
    have : (s.modTank fun m => { m with external := externalNow s }) = s := by
      rw [he]
      rfl
    rw [this]
    exact judge_reacted 11 s
  · exact (externalPublished_reacted _).trans (judge_reacted 11 _)

/-! ## The head channels -/

theorem headPublished_steady (k : TankId) (valid : Bool) (hg : Levelled g s) :
    Steady g (· = 11) [] s (headPublished k valid s) := by
  have h : Steady g (· = 11) [] s (s.modTankOf k fun x => { x with reseed := x.reseed || !valid }) := by
    cases k <;> exact .of_same hg rfl rfl rfl rfl rfl rfl ⟨rfl, rfl⟩
  exact h.trans (judge_sensor h.levels)

/-! ## CAS -/

/-- The casing hot condition on a publication of CAS (R90, R91). -/
def casingHotNow (s : State) : Bool :=
  s.analog.cas.valid &&
    decide ((if s.gov.casingHot then s.cfg 103 - 7 else s.cfg 103) ≤ s.analog.cas.value)

/-- The RELIEF command on a publication of CAS (R89, R91). -/
def reliefNow (s : State) : Bool :=
  !s.analog.cas.valid ||
    decide ((if s.out.lines[relief].commanded then s.cfg 102 - 7 else s.cfg 102) ≤ s.analog.cas.value)

theorem casingJudge_eq (s : State) : casingJudge s =
    command relief (reliefNow s) (s.modGov fun k => { k with casingHot := casingHotNow s }) := by
  have hlt : ∀ x y : Int, decide (x - 8 < y) = decide (x - 7 ≤ y) := fun x y => decide_eq_decide.2 (by omega)
  unfold casingJudge casingHotNow reliefNow
  dsimp only
  cases s.analog.cas.valid <;> cases s.gov.casingHot <;> cases s.out.lines[relief].commanded <;> simp [hlt]

/-- CAS is published: RELIEF, entry 9 and entry 11. -/
theorem casPublished_steady (hg : Levelled g s) (hr : g relief = some (reliefNow s)) :
    let w := s.modGov fun k => { k with casingHot := casingHotNow s }
    let u := command relief (reliefNow s) w
    Steady g (fun n => n = 9 ∨ n = 11) (noticesAt 9 u) w (casPublished s) ∧
      (casPublished s).ilk.entries[(9 : Fin 32)] =
        entryMoved s.ilk.entries[(9 : Fin 32)] (effective u 9) 0 false ∧
      (casPublished s).out.lines[relief].commanded = reliefNow s := by
  dsimp only
  unfold casPublished
  rw [casingJudge_eq]
  have hw : Levelled g (s.modGov fun k => { k with casingHot := casingHotNow s }) := hg.congr rfl rfl rfl
  have h1 : Steady g (fun n => n = 9 ∨ n = 11) [] _ (command relief (reliefNow s)
      (s.modGov fun k => { k with casingHot := casingHotNow s })) :=
    command_steady hw (.inl hr)
  have hc := command_commanded relief (reliefNow s) (s.modGov fun k => { k with casingHot := casingHotNow s })
  have he : (command relief (reliefNow s) (s.modGov fun k => { k with casingHot := casingHotNow s })).ilk = s.ilk :=
    (command_ilk _ _ _).trans rfl
  generalize command relief (reliefNow s) (s.modGov fun k => { k with casingHot := casingHotNow s }) = u at h1 hc he
  have h2 : Steady g (· = 9) (noticesAt 9 u) u (judge 9 u) := judge_steady h1.levels ⟨rfl, rfl⟩
  have h3 := judge_sensor h2.levels
  have hj := ((judge_judged 9 u).mono (M := fun n => n = 9 ∨ n = 11) fun _ h => .inl h).trans
    ((judge_judged 11 _).mono fun _ h => .inr h)
  refine ⟨?_, ?_, ?_⟩
  · have h := h1.trans ((h2.mono fun _ h => .inl h).trans (h3.mono fun _ h => .inr h))
    rwa [List.append_nil, List.nil_append] at h
  · rw [h3.entries 9 (by decide), judge_entry]
    simp only [he]
    rfl
  · rw [hj.lines relief (by decide) (by decide) (by decide) (by decide)]
    exact hc

end Sys2Proof.Machine
end

section
/-! PROOF. Supply-low (R19, R98, R138): what its judgment publishes, and the diagnostics of each line. -/

namespace Sys2Proof.Machine

variable {g : Fin 10 → Option Bool} {s : State}

/-! ## The diagnostics -/

/-- While supply-low holds no line runs its mismatch timer (R138). -/
theorem suspendDiagnostics_line (n : Fin 10) (s : State) : (suspendDiagnostics s).out.lines[n].mismatch = none := by
  obtain ⟨u, -, -, -, h⟩ := foldl_allLines_line (f := fun s n => s.modLine n fun l => { l with mismatch := none })
    (fun s n => .of_modLine n _ s) n s
  unfold suspendDiagnostics
  rw [h, State.modLine_line_self]

theorem startBlank_of_ok {n : Fin 10} (he : s.diagEnabled n = true) (hd : s.out.lines[n].diag.faulty = false) :
    startBlank n s = s.modLine n fun l => { l with diag := .blank, mismatch := none, blank := some (s.blankTime n) } := by
  unfold startBlank
  rw [he, hd]
  rfl

/-- A line whose diagnostics resume, where a marked line has its diagnostics enabled (R138). -/
theorem resumeLine_line {n : Fin 10} (he : s.out.lines[n].blankPending = true → s.diagEnabled n = true) :
    (resumeLine n s).out.lines[n] =
      let l := s.out.lines[n]
      if l.diag = .ok ∧ l.blankPending = true then
        { l with diag := .blank, blank := some (s.blankTime n), mismatch := none, blankPending := false }
      else if s.diagEnabled n = true ∧ l.diag = .ok ∧ l.readback ≠ l.effective then
        { l with mismatch := some 100000, blankPending := false }
      else if l.retryPhase = some .onPhase ∧ l.blank = none then
        { l with mismatch := some 100000, blankPending := false }
      else { l with blankPending := false } := by
  unfold resumeLine
  dsimp only
  split
  · rename_i hm
    obtain ⟨hok, hp⟩ := hm
    have hd : (s.modLine n fun l => { l with blankPending := false }).out.lines[n].diag.faulty = false := by
      rw [State.modLine_line_self]
      simp only [hok]
      rfl
    rw [startBlank_of_ok (s := s.modLine n fun l => { l with blankPending := false }) (he hp) hd, State.modLine_line_self, State.modLine_line_self]
    rfl
  · split
    · rw [State.modLine_line_self, State.modLine_line_self]
      rfl
    · split
      · rw [State.modLine_line_self, State.modLine_line_self]
        rfl
      · rw [State.modLine_line_self]

theorem startBlank_commanded (n : Fin 10) (s : State) :
    (startBlank n s).out.lines[n].commanded = s.out.lines[n].commanded := by
  unfold startBlank
  split
  · rfl
  · rw [State.modLine_line_self]

/-- The diagnostics leave the commands. -/
theorem resumeLine_commanded (n : Fin 10) (s : State) :
    (resumeLine n s).out.lines[n].commanded = s.out.lines[n].commanded := by
  unfold resumeLine
  dsimp only
  split
  · rw [startBlank_commanded, State.modLine_line_self]
  · split
    · rw [State.modLine_line_self, State.modLine_line_self]
    · split
      · rw [State.modLine_line_self, State.modLine_line_self]
      · rw [State.modLine_line_self]

/-- Over all lines each line's diagnostics resume from where the line stood. -/
theorem resumeDiagnostics_line (n : Fin 10) (s : State) : ∃ u, OutOnly s u ∧ u.out.lines[n] = s.out.lines[n] ∧
    (resumeDiagnostics s).out.lines[n] = (resumeLine n u).out.lines[n] := by
  obtain ⟨u, h1, -, h2, h3⟩ := foldl_allLines_line (f := fun s n => resumeLine n s)
    (fun s n => resumeLine_lineOnly n s) n s
  unfold resumeDiagnostics
  exact ⟨u, h1, h2, h3⟩

theorem suspendDiagnostics_outOnly (s : State) : OutOnly s (suspendDiagnostics s) := by
  unfold suspendDiagnostics
  exact (foldl_lines_outOnly (f := fun s n => s.modLine n fun l => { l with mismatch := none })
    (fun s n => .of_modLine n _ s) allLines s).1

theorem resumeDiagnostics_outOnly (s : State) : OutOnly s (resumeDiagnostics s) := by
  unfold resumeDiagnostics
  exact (foldl_lines_outOnly (f := fun s n => resumeLine n s) (fun s n => resumeLine_lineOnly n s) allLines s).1

/-! ## The judgment -/

/-- Supply-low and entry 10 once SUP is judged (R19, R34). -/
def supJudged (s : State) : State :=
  if supplyLowNow s = s.analog.supplyLow then s
  else judge 10 (s.modAnalog fun a => { a with supplyLow := supplyLowNow s })

theorem supPublished_eq (s : State) : supPublished s = if supplyLowNow s = s.analog.supplyLow then supJudged s
    else if supplyLowNow s = true then suspendDiagnostics (dropRuns (supJudged s))
    else resumeDiagnostics (supJudged s) := by
  unfold supPublished supJudged
  dsimp only
  split <;> rfl

/-- Entry 10's source is supply-low, in every mode (R34). -/
theorem effective_supply (s : State) : effective s 10 = s.analog.supplyLow := by
  have : (entryModes s 10).has s.ilk.mode = true := by cases s.ilk.mode <;> rfl
  rw [effective, this, Bool.and_true]
  rfl

theorem supJudged_steady (hg : Levelled g s) : Steady g (· = 10) [] s (supJudged s) ∧
    (supJudged s).ilk.entries[(10 : Fin 32)] = if supplyLowNow s = s.analog.supplyLow then s.ilk.entries[(10 : Fin 32)]
      else entryMoved s.ilk.entries[(10 : Fin 32)] (supplyLowNow s) 1000 false := by
  unfold supJudged
  split
  · exact ⟨.refl hg, rfl⟩
  · have h1 : Steady g (· = 10) [] s (s.modAnalog fun a => { a with supplyLow := supplyLowNow s }) :=
      .of_same hg rfl rfl rfl rfl rfl rfl ⟨rfl, rfl⟩
    have h2 := judge_steady (n := 10) h1.levels ⟨rfl, rfl⟩
    rw [show noticeOf 10 _ = [] from rfl, ite_self] at h2
    refine ⟨h1.trans h2, ?_⟩
    rw [judge_entry, effective_supply]
    rfl

/-- What the diagnostics leave of the judgment's state. -/
theorem supPublished_rest (s : State) : (supPublished s).ilk = (supJudged s).ilk ∧
    (supPublished s).pto = (supJudged s).pto ∧ (supPublished s).gov = (supJudged s).gov ∧
    (supPublished s).links = (supJudged s).links ∧ (supPublished s).tank.priming = (supJudged s).tank.priming ∧
    (supPublished s).tank.primeTimer = (supJudged s).tank.primeTimer := by
  have key : ∀ {u : State}, OutOnly (supJudged s) u ∨ OutOnly (dropRuns (supJudged s)) u →
      u.ilk = (supJudged s).ilk ∧ u.pto = (supJudged s).pto ∧ u.gov = (supJudged s).gov ∧
        u.links = (supJudged s).links ∧ u.tank.priming = (supJudged s).tank.priming ∧
        u.tank.primeTimer = (supJudged s).tank.primeTimer := by
    rintro u (h | h) <;> rw [h] <;> exact ⟨rfl, rfl, rfl, rfl, rfl, rfl⟩
  rw [supPublished_eq]
  split
  · exact key (.inl (.refl _))
  · split
    · exact key (.inr (suspendDiagnostics_outOnly _))
    · exact key (.inl (resumeDiagnostics_outOnly _))

/-- The diagnostics leave the commands. -/
theorem supPublished_commanded (n : Fin 10) (s : State) :
    (supPublished s).out.lines[n].commanded = (supJudged s).out.lines[n].commanded := by
  rw [supPublished_eq]
  split
  · rfl
  · split
    · obtain ⟨u, -, -, hu, h⟩ := foldl_allLines_line (f := fun s n => s.modLine n fun l => { l with mismatch := none })
        (fun s n => .of_modLine n _ s) n (dropRuns (supJudged s))
      unfold suspendDiagnostics
      rw [h, State.modLine_line_self]
      simp only [hu]
      rfl
    · obtain ⟨u, -, hu, h⟩ := resumeDiagnostics_line n (supJudged s)
      rw [h, resumeLine_commanded, hu]

/-- The measurement that a publication of SUP makes. -/
def supMeasured (s : State) : State :=
  let m := s.modAnalog fun a => { a with supplyLow := supplyLowNow s }
  if supplyLowNow s = true ∧ s.analog.supplyLow = false then dropRuns m else m

theorem supPublished_reacted (s : State) : Reacted (supMeasured s) (supPublished s) := by
  have hj := judge_reacted 10 (s.modAnalog fun a => { a with supplyLow := supplyLowNow s })
  have hsame : supplyLowNow s = s.analog.supplyLow → supJudged s = s := fun h => if_pos h
  have hmoved : ¬ supplyLowNow s = s.analog.supplyLow →
      supJudged s = judge 10 (s.modAnalog fun a => { a with supplyLow := supplyLowNow s }) := fun h => if_neg h
  rw [supPublished_eq]
  unfold supMeasured
  by_cases he : supplyLowNow s = s.analog.supplyLow
  · have hm : (s.modAnalog fun a => { a with supplyLow := supplyLowNow s }) = s := by
      rw [he]
      rfl
    rw [if_pos he, hsame he, if_neg (fun h => by rw [h.1, h.2] at he; cases he), hm]
    exact .refl s
  · rw [if_neg he, hmoved he]
    by_cases hl : supplyLowNow s = true
    · rw [if_pos hl, if_pos ⟨hl, by rw [hl] at he; simpa using he⟩]
      exact hj.dropRuns.trans (suspendDiagnostics_reacted _)
    · rw [if_neg hl, if_neg (fun h => hl h.1)]
      exact hj.trans (resumeDiagnostics_reacted _)

end Sys2Proof.Machine
end

section
/-! PROOF. A whole sample expiry (R16 to R19): the channels one after another, each measured and then published. -/

namespace Sys2Proof.Machine

/-! ## The stages -/

/-- The six channels after their samples, with the timer started afresh. -/
def measured (c : Counts) (s : State) : Analog where
  dis := sampledChannel s.analog.dis c.dis 205 3890 (scaleFull (s.cfg 14)) true
  int := sampledChannel s.analog.int c.int 205 3890 (scaleIntake (s.cfg 15)) true
  hwt := sampledChannel s.analog.hwt c.hwt 205 3890 (scaleFull (s.cfg 16)) true
  hfm := sampledChannel s.analog.hfm c.hfm 205 3890 (scaleFull (s.cfg 17)) true
  cas := sampledChannel s.analog.cas c.cas 41 4054 scaleCasing true
  sup := sampledChannel s.analog.sup c.sup 0 4095 scaleSupply false
  sampleTimer := some 10000
  supplyLow := s.analog.supplyLow

/-- DIS measured, and the channels after it as their turns come. -/
def disMeasured (k : Analog) (s : State) : State :=
  s.modAnalog fun a => { a with sampleTimer := k.sampleTimer, dis := k.dis }

def intMeasured (k : Analog) (s : State) : State :=
  (disPublished (disMeasured k s)).modAnalog fun a => { a with int := k.int }

def hwtMeasured (k : Analog) (s : State) : State :=
  (intPublished (intMeasured k s)).modAnalog fun a => { a with hwt := k.hwt }

def hfmMeasured (k : Analog) (s : State) : State :=
  (headPublished .water k.hwt.valid (hwtMeasured k s)).modAnalog fun a => { a with hfm := k.hfm }

def casMeasured (k : Analog) (s : State) : State :=
  (headPublished .foam k.hfm.valid (hfmMeasured k s)).modAnalog fun a => { a with cas := k.cas }

def supMeasuredLast (k : Analog) (s : State) : State :=
  (casPublished (casMeasured k s)).modAnalog fun a => { a with sup := k.sup }

/-! ## What the stages measure -/

/-- Whether external supply is present, with `int` as it is (R113). -/
def supplyWith (int : AnalogChannel) (s : State) : Bool :=
  int.valid && decide ((if s.tank.external then s.cfg 200 - 20 else s.cfg 200) ≤ int.value)

theorem externalNow_eq (s : State) : externalNow s = supplyWith s.analog.int s := by
  unfold externalNow supplyWith
  cases s.tank.external <;> rfl

theorem Reacted.supplyWith {s t : State} (h : Reacted s t) (int : AnalogChannel) :
    supplyWith int t = supplyWith int s := by
  unfold Sys2Proof.Machine.supplyWith
  rw [h.external, h.cfg]

theorem headPublished_reacted (k : TankId) (valid : Bool) (s : State) :
    Reacted (s.modTankOf k fun x => { x with reseed := x.reseed || !valid }) (headPublished k valid s) :=
  judge_reacted 11 _

variable (k : Analog) (s : State)

theorem intMeasured_reacted : Reacted ((disMeasured k s).modAnalog fun a => { a with int := k.int }) (intMeasured k s) :=
  (disPublished_reacted _).modAnalog _

theorem externalNow_intMeasured : externalNow (intMeasured k s) = supplyWith k.int s := by
  have h := intMeasured_reacted k s
  rw [externalNow_eq, h.analog, h.supplyWith]
  rfl

theorem intPublished_measured : Reacted { s with
    analog := { s.analog with sampleTimer := k.sampleTimer, dis := k.dis, int := k.int }
    tank := { s.tank with external := supplyWith k.int s } } (intPublished (intMeasured k s)) := by
  have h := intPublished_reacted (intMeasured k s)
  rw [externalNow_intMeasured] at h
  exact ((intMeasured_reacted k s).modExternal _).trans h

theorem hwtMeasured_reacted : Reacted { s with
    analog := { k with hfm := s.analog.hfm, cas := s.analog.cas, sup := s.analog.sup, supplyLow := s.analog.supplyLow }
    tank := { s.tank with external := supplyWith k.int s } } (hwtMeasured k s) :=
  (intPublished_measured k s).modAnalog fun a => { a with hwt := k.hwt }

theorem waterPublished_measured : Reacted { s with
    analog := { k with hfm := s.analog.hfm, cas := s.analog.cas, sup := s.analog.sup, supplyLow := s.analog.supplyLow }
    tank := { s.tank with
      external := supplyWith k.int s
      water := { s.tank.water with reseed := s.tank.water.reseed || !k.hwt.valid } } }
    (headPublished .water k.hwt.valid (hwtMeasured k s)) :=
  ((hwtMeasured_reacted k s).modReseed .water (· || !k.hwt.valid)).trans
    (headPublished_reacted .water k.hwt.valid (hwtMeasured k s))

theorem hfmMeasured_reacted : Reacted { s with
    analog := { k with cas := s.analog.cas, sup := s.analog.sup, supplyLow := s.analog.supplyLow }
    tank := { s.tank with
      external := supplyWith k.int s
      water := { s.tank.water with reseed := s.tank.water.reseed || !k.hwt.valid } } } (hfmMeasured k s) :=
  (waterPublished_measured k s).modAnalog fun a => { a with hfm := k.hfm }

theorem foamPublished_measured : Reacted { s with
    analog := { k with cas := s.analog.cas, sup := s.analog.sup, supplyLow := s.analog.supplyLow }
    tank := { s.tank with
      external := supplyWith k.int s
      water := { s.tank.water with reseed := s.tank.water.reseed || !k.hwt.valid }
      foam := { s.tank.foam with reseed := s.tank.foam.reseed || !k.hfm.valid } } }
    (headPublished .foam k.hfm.valid (hfmMeasured k s)) :=
  ((hfmMeasured_reacted k s).modReseed .foam (· || !k.hfm.valid)).trans
    (headPublished_reacted .foam k.hfm.valid (hfmMeasured k s))

/-- Before CAS is published. -/
theorem casMeasured_reacted : Reacted { s with
    analog := { k with sup := s.analog.sup, supplyLow := s.analog.supplyLow }
    tank := { s.tank with
      external := supplyWith k.int s
      water := { s.tank.water with reseed := s.tank.water.reseed || !k.hwt.valid }
      foam := { s.tank.foam with reseed := s.tank.foam.reseed || !k.hfm.valid } } } (casMeasured k s) :=
  (foamPublished_measured k s).modAnalog fun a => { a with cas := k.cas }

/-- Before SUP is published. -/
theorem supMeasuredLast_reacted : Reacted { s with
    analog := { k with supplyLow := s.analog.supplyLow }
    tank := { s.tank with
      external := supplyWith k.int s
      water := { s.tank.water with reseed := s.tank.water.reseed || !k.hwt.valid }
      foam := { s.tank.foam with reseed := s.tank.foam.reseed || !k.hfm.valid } } } (supMeasuredLast k s) := by
  have h := (casMeasured_reacted k s).trans (casPublished_reacted (casMeasured k s))
  unfold supMeasuredLast
  generalize casPublished (casMeasured k s) = t at h ⊢
  exact h.modAnalog fun a => { a with sup := k.sup }

/-- Each channel's own sample is the one it had before the expiry, since no answer to a publication moves a channel. -/
theorem sampleAll_eq (c : Counts) : sampleAll c s = supPublished (supMeasuredLast (measured c s) s) := by
  let k := measured c s
  have hint : (disPublished (disMeasured k s)).analog.int = s.analog.int :=
    (congrArg Analog.int (disPublished_reacted (disMeasured k s)).analog :)
  have hhwt : (intPublished (intMeasured k s)).analog.hwt = s.analog.hwt :=
    (congrArg Analog.hwt (intPublished_measured k s).analog :)
  have hhfm : (headPublished .water k.hwt.valid (hwtMeasured k s)).analog.hfm = s.analog.hfm :=
    (congrArg Analog.hfm (waterPublished_measured k s).analog :)
  have hcas : (headPublished .foam k.hfm.valid (hfmMeasured k s)).analog.cas = s.analog.cas :=
    (congrArg Analog.cas (foamPublished_measured k s).analog :)
  have hsup : (casPublished (casMeasured k s)).analog.sup = s.analog.sup :=
    (congrArg Analog.sup ((casMeasured_reacted k s).trans (casPublished_reacted (casMeasured k s))).analog :)
  have e1 : (s.modAnalog fun a => { a with
      sampleTimer := some (ms 10), dis := a.dis.sample c.dis 205 3890 (scaleFull (s.cfg 14)) true }) =
        disMeasured k s := by
    simp only [State.modAnalog, disMeasured, AnalogChannel.sample_eq]
    rfl
  have e2 : ((disPublished (disMeasured k s)).modAnalog fun a => { a with
      int := a.int.sample c.int 205 3890 (scaleIntake (s.cfg 15)) true }) = intMeasured k s := by
    simp only [State.modAnalog, intMeasured, AnalogChannel.sample_eq, hint]
    rfl
  have e5 : ((headPublished .foam k.hfm.valid (hfmMeasured k s)).modAnalog fun a => { a with
      cas := a.cas.sample c.cas 41 4054 scaleCasing true }) = casMeasured k s := by
    simp only [State.modAnalog, casMeasured, AnalogChannel.sample_eq, hcas]
    rfl
  have e6 : ((casPublished (casMeasured k s)).modAnalog fun a => { a with
      sup := a.sup.sample c.sup 0 4095 scaleSupply false }) = supMeasuredLast k s := by
    simp only [State.modAnalog, supMeasuredLast, AnalogChannel.sample_eq, hsup]
    rfl
  have e3 : s.analog.hwt.sample c.hwt 205 3890 (scaleFull (s.cfg 16)) true = k.hwt := AnalogChannel.sample_eq ..
  have e4 : s.analog.hfm.sample c.hfm 205 3890 (scaleFull (s.cfg 17)) true = k.hfm := AnalogChannel.sample_eq ..
  have m3 : ((intPublished (intMeasured k s)).modAnalog fun a => { a with hwt := k.hwt }) = hwtMeasured k s := rfl
  have m4 : ((headPublished .water k.hwt.valid (hwtMeasured k s)).modAnalog fun a => { a with hfm := k.hfm }) =
    hfmMeasured k s := rfl
  unfold sampleAll
  dsimp only
  rw [e1, e2, hhwt, e3, m3, hhfm, e4, m4, e5, e6]

end Sys2Proof.Machine
end

section
/-! PROOF. A whole sample expiry, up to the diagnostics: what the entries, the lines, the governor and the primer make of it. -/

namespace Sys2Proof.Machine

/-! ## The start of the event -/

theorem primeTimerAfter_governorOnDis (s : State) : primeTimerAfter (governorOnDis s) = primeTimerAfter s := by
  obtain ⟨-, -, -, hs, ht, ha, -⟩ := governorOnDis_rest s
  unfold primeTimerAfter primePressure
  rw [ht, ha, State.cfg, hs]
  rfl

/-- What DIS leaves before entry 11 is judged. -/
theorem disTaken_rest (s : State) : (disTaken s).ilk = s.ilk ∧ (disTaken s).pto = s.pto ∧ (disTaken s).out = s.out ∧
    (disTaken s).gov = (governorOnDis s).gov ∧ (disTaken s).gov.casingHot = s.gov.casingHot ∧
    (disTaken s).tank.priming = s.tank.priming ∧ (disTaken s).tank.primeTimer = primeTimerAfter s ∧
    (disTaken s).links = (governorOnDis s).links := by
  obtain ⟨hi, hp, ho, -, ht, -, hc⟩ := governorOnDis_rest s
  unfold disTaken
  rw [primerOnDis_eq, primeTimerAfter_governorOnDis]
  exact ⟨hi, hp, ho, rfl, hc, (congrArg TankMonitor.priming ht :), rfl, rfl⟩

/-! ## What the two entries read -/

/-- Entry 8's source (R34). -/
theorem effective_reserve_congr {s t : State} (hc : t.tank.water.cls = s.tank.water.cls)
    (hl : t.out.lines[tankValveLine].commanded = s.out.lines[tankValveLine].commanded) (he : t.tank.external = s.tank.external)
    (hm : t.ilk.mode = s.ilk.mode) : effective t 8 = effective s 8 := by
  have h : ∀ u : State, effective u 8 = ((u.tank.water.cls == .reserve && u.out.lines[tankValveLine].commanded &&
      !u.tank.external) && (entryModes u 8).has u.ilk.mode) := fun _ => rfl
  have hmodes : entryModes t 8 = entryModes s 8 := rfl
  rw [h, h, hc, hl, he, hm, hmodes]

/-- Entry 9's source (R34). -/
theorem effective_hot_congr {s t : State} (hh : t.gov.casingHot = s.gov.casingHot) (hm : t.ilk.mode = s.ilk.mode) :
    effective t 9 = effective s 9 := by
  have h : ∀ u : State, effective u 9 = (u.gov.casingHot && (entryModes u 9).has u.ilk.mode) := fun _ => rfl
  have hmodes : entryModes t 9 = entryModes s 9 := rfl
  rw [h, h, hh, hm, hmodes]

/-! ## The notices of entries 8 and 9 -/

/-- Whether an entry goes from CLEAR to ACTIVE. -/
def joined (e f : Entry) : Bool := e.state == .clear && f.state == .active

theorem joined_entryMoved (e : Entry) (b : Bool) : joined e (entryMoved e b 0 false) = (e.state == .clear && b) := by
  obtain ⟨st, d, si⟩ := e
  cases st <;> cases b <;> rfl

theorem joined_self (e : Entry) : joined e e = false := by
  obtain ⟨st, d, si⟩ := e
  cases st <;> rfl

/-- A forcing entry's notice: the governor alone takes it, and it is there where the entry joins. -/
theorem noticesAt_forces {n : Fin 32} (hn : n = 8 ∨ n = 9) {u : State} {e : Entry} (he : u.ilk.entries[n] = e)
    (p : Pto) : ((noticesAt n u).any fun x => x.actions.forceIdle) = joined e (entryMoved e (effective u n) 0 false) ∧
      (∀ x ∈ noticesAt n u, Deaf p x) ∧ (noticesAt n u).length ≤ 1 := by
  have hj : joinsAt n u = joined e (entryMoved e (effective u n) 0 false) := by
    rw [joined_entryMoved, joinsAt, he]
    obtain rfl | rfl := hn <;> exact Bool.and_true _
  have h0 : n ≠ 0 := by obtain rfl | rfl := hn <;> decide
  have hx : noticeOf n u = [⟨n, entryActions u n⟩] := by
    obtain rfl | rfl := hn <;> rfl
  unfold noticesAt
  rw [hj, hx]
  split
  · rename_i h
    rw [h]
    refine ⟨by obtain rfl | rfl := hn <;> rfl, fun x hm => ?_, le_refl _⟩
    obtain rfl := List.mem_singleton.1 hm
    obtain rfl | rfl := hn <;> exact ⟨h0, .inl ⟨rfl, rfl⟩⟩
  · rename_i h
    exact ⟨(Bool.not_eq_true _ ▸ h).symm, by simp, by simp⟩

/-! ## The levels of the event's commands -/

/-- The state on which a change of external supply is published. -/
def supplyTaken (k : Analog) (s : State) : State :=
  (intMeasured k s).modTank fun m => { m with external := externalNow (intMeasured k s) }

/-- The levels that the event commands before CAS is published (R49, R50, R119). -/
def supplyLevels (k : Analog) (s : State) (n : Fin 10) : Option Bool :=
  if n = driveEn then some (permit s) else if n = thrLimit then some (inForce s (·.limitRoad))
  else if n = fillValve then some (fillLevel (supplyTaken k s)) else none

/-- The levels that the whole event commands: RELIEF with them (R89). -/
def sampleLevels (k : Analog) (s : State) (n : Fin 10) : Option Bool :=
  if n = relief then some (reliefNow (casMeasured k s)) else supplyLevels k s n

/-- The commands before CAS are commands of the event. -/
theorem LevelCommand.sampleLevels {k : Analog} {s : State} (n : Fin 10) (on : Bool)
    (h : LevelCommand (supplyLevels k s) n on) : LevelCommand (sampleLevels k s) n on := by
  refine h.imp_left fun h => ?_
  have hn : n ≠ relief := by
    rintro rfl
    cases h
  rw [Sys2Proof.Machine.sampleLevels, if_neg hn]
  exact h

/-! ## The stages' steps -/

variable (k : Analog) (s : State)

/-- The join notice of entry 8, where external supply changes. -/
def supplyNotices : List Notice :=
  if supplyWith k.int s = s.tank.external then [] else noticesAt 8 (supplyTaken k s)

/-- The state on which CAS makes entry 9 be judged. -/
def hotTaken : State := command relief (reliefNow (casMeasured k s))
  ((casMeasured k s).modGov fun v => { v with casingHot := casingHotNow (casMeasured k s) })

theorem modAnalog_steady {g : Fin 10 → Option Bool} {N : Fin 32 → Prop} {u : State} (hg : Levelled g u) (f : Analog → Analog) :
    Steady g N [] u (u.modAnalog f) := .of_same hg rfl rfl rfl rfl rfl rfl ⟨rfl, rfl⟩

/-- INT is measured on the state that DIS has left. -/
theorem intMeasured_steady :
    Steady (supplyLevels k s) (· = 11) [] (disTaken (disMeasured k s)) (intMeasured k s) := by
  have h1 := disPublished_steady (g := supplyLevels k s) (s := disMeasured k s) ⟨rfl, rfl⟩
  exact h1.trans (modAnalog_steady h1.levels _)

/-- The head channels are measured on the state that INT has left, and CAS on theirs. -/
theorem heads_steady {g : Fin 10 → Option Bool} (hg : Levelled g (intPublished (intMeasured k s))) :
    Steady g (· = 11) [] (intPublished (intMeasured k s)) (casMeasured k s) := by
  have h1 : Steady g (· = 11) [] _ (hwtMeasured k s) := modAnalog_steady hg _
  have h2 := headPublished_steady .water k.hwt.valid h1.levels
  have h3 : Steady g (· = 11) [] _ (hfmMeasured k s) := modAnalog_steady h2.levels _
  have h4 := headPublished_steady .foam k.hfm.valid h3.levels
  have h5 : Steady g (· = 11) [] _ (casMeasured k s) := modAnalog_steady h4.levels _
  exact h1.trans (h2.trans (h3.trans (h4.trans h5)))

/-- From DIS to CAS. -/
theorem casMeasured_steady :
    Steady (supplyLevels k s) (fun n => n = 8 ∨ n = 11) (supplyNotices k s) (disTaken (disMeasured k s))
      (casMeasured k s) ∧
    (casMeasured k s).ilk.entries[(8 : Fin 32)] = if supplyWith k.int s = s.tank.external
      then s.ilk.entries[(8 : Fin 32)]
      else entryMoved s.ilk.entries[(8 : Fin 32)] (effective (supplyTaken k s) 8) 0 false := by
  have h1 := intMeasured_steady k s
  obtain ⟨h2, h3⟩ := intPublished_steady h1.levels rfl
  have hext : (intMeasured k s).tank.external = s.tank.external := (intMeasured_reacted k s).external
  have he : (intMeasured k s).ilk.entries[(8 : Fin 32)] = s.ilk.entries[(8 : Fin 32)] := by
    rw [h1.entries 8 (by decide)]
    simp only [(disTaken_rest _).1]
    rfl
  rw [externalNow_intMeasured, hext] at h2 h3
  have h4 := heads_steady k s h2.levels
  refine ⟨?_, ?_⟩
  · have h := (h1.mono (M := fun n => n = 8 ∨ n = 11) fun _ h => .inr h).trans (h2.trans (h4.mono fun _ h => .inr h))
    rw [List.append_nil, List.nil_append] at h
    unfold supplyNotices supplyTaken
    rw [externalNow_intMeasured]
    exact h
  · rw [h4.entries 8 (by decide), h3, he]
    unfold supplyTaken
    rw [externalNow_intMeasured]

theorem supJudged_relief (u : State) : (supJudged u).out.lines[relief] = u.out.lines[relief] := by
  unfold supJudged
  split
  · rfl
  · exact (judge_judged 10 (u.modAnalog fun a => { a with supplyLow := supplyLowNow u })).lines relief (by decide)
      (by decide) (by decide) (by decide)

/-- From CAS to the judgment of supply-low. -/
theorem supJudged_steady_cas :
    Steady (sampleLevels k s) (fun n => n = 9 ∨ n = 10 ∨ n = 11) (noticesAt 9 (hotTaken k s))
      ((casMeasured k s).modGov fun v => { v with casingHot := casingHotNow (casMeasured k s) })
      (supJudged (supMeasuredLast k s)) ∧
    (supJudged (supMeasuredLast k s)).ilk.entries[(9 : Fin 32)] =
      entryMoved (casMeasured k s).ilk.entries[(9 : Fin 32)] (effective (hotTaken k s) 9) 0 false ∧
    (supJudged (supMeasuredLast k s)).ilk.entries[(10 : Fin 32)] =
      (if supplyLowNow (supMeasuredLast k s) = s.analog.supplyLow then (casMeasured k s).ilk.entries[(10 : Fin 32)]
      else entryMoved (casMeasured k s).ilk.entries[(10 : Fin 32)] (supplyLowNow (supMeasuredLast k s)) 1000 false) ∧
    (supJudged (supMeasuredLast k s)).out.lines[relief].commanded = reliefNow (casMeasured k s) := by
  have hlow : (supMeasuredLast k s).analog.supplyLow = s.analog.supplyLow :=
    (congrArg Analog.supplyLow (supMeasuredLast_reacted k s).analog :)
  obtain ⟨h1, h2, h3⟩ := casPublished_steady (g := sampleLevels k s) (casMeasured_steady k s).1.levels rfl
  have h10 : (casPublished (casMeasured k s)).ilk.entries[(10 : Fin 32)] = (casMeasured k s).ilk.entries[(10 : Fin 32)] :=
    h1.entries 10 (by decide)
  have hi : (supMeasuredLast k s).ilk = (casPublished (casMeasured k s)).ilk := by
    rw [supMeasuredLast, State.modAnalog_ilk]
  have ho : (supMeasuredLast k s).out = (casPublished (casMeasured k s)).out := by
    rw [supMeasuredLast, State.modAnalog_out]
  have h4 : Steady (sampleLevels k s) (· = 10) [] (casPublished (casMeasured k s)) (supMeasuredLast k s) :=
    modAnalog_steady h1.levels _
  obtain ⟨h5, h6⟩ := supJudged_steady h4.levels
  have h7 := h4.trans h5
  have hr := supJudged_relief (supMeasuredLast k s)
  rw [hlow] at h6
  generalize supJudged (supMeasuredLast k s) = q at h5 h6 h7 hr
  generalize supplyLowNow (supMeasuredLast k s) = low at h6
  refine ⟨?_, ?_, ?_, ?_⟩
  · have h := (h1.mono (M := fun n => n = 9 ∨ n = 10 ∨ n = 11) (by rintro n (h | h) <;> simp [h])).trans
      (h7.mono (by rintro n h; simp [h]))
    rwa [List.append_nil, List.append_nil] at h
  · exact (h7.entries 9 (by decide)).trans h2
  · rw [h6]
    simp only [hi, h10]
  · rw [hr]
    simp only [ho]
    exact h3

end Sys2Proof.Machine
end

section
/-! PROOF. What a sample expiry leaves before the end of its command. -/

namespace Sys2Proof.Machine

variable (k : Analog) (s : State)

/-- The end of the channels' work: SUP has been published. -/
def sampled : State := supPublished (supMeasuredLast k s)

/-! ## The measurements -/

theorem supplyLowNow_sampled : supplyLowNow (supMeasuredLast k s) =
    decide (k.sup.value < if s.analog.supplyLow then s.cfg 18 + 5 else s.cfg 18) := by
  have h := supMeasuredLast_reacted k s
  unfold supplyLowNow
  rw [h.analog, h.cfg]
  cases s.analog.supplyLow <;> rfl

/-- What a sample expiry measures, field by field (R16 to R19, R98, R103, R113). -/
theorem sampled_reacted (low : Bool) (hlow : supplyLowNow (supMeasuredLast k s) = low) : Reacted { s with
    analog := { k with supplyLow := low }
    tank := { s.tank with
      external := supplyWith k.int s
      probes := if low && !s.analog.supplyLow then
          s.tank.probes.map fun p => { p with candidate := none, run := 0 }
        else s.tank.probes
      water := { s.tank.water with reseed := s.tank.water.reseed || !k.hwt.valid }
      foam := { s.tank.foam with reseed := s.tank.foam.reseed || !k.hfm.valid } } } (sampled k s) := by
  have h := supMeasuredLast_reacted k s
  have hr := supPublished_reacted (supMeasuredLast k s)
  unfold supMeasured at hr
  dsimp only at hr
  have hsl : (supMeasuredLast k s).analog.supplyLow = s.analog.supplyLow := (congrArg Analog.supplyLow h.analog :)
  rw [hlow, hsl] at hr
  have hm := h.modAnalog fun a => { a with supplyLow := low }
  unfold sampled
  generalize supPublished (supMeasuredLast k s) = u at hr ⊢
  by_cases hd : low = true ∧ s.analog.supplyLow = false
  · rw [if_pos hd] at hr
    have hb : (low && !s.analog.supplyLow) = true := by rw [hd.1, hd.2]; rfl
    rw [if_pos hb]
    exact hm.dropRuns.trans hr
  · rw [if_neg hd] at hr
    have hb : (low && !s.analog.supplyLow) = false := by
      revert hd
      cases low <;> cases s.analog.supplyLow <;> decide
    rw [if_neg (by rw [hb]; decide)]
    exact hm.trans hr

/-! ## The interlock unit and the PTO -/

theorem sampled_mode : (sampled k s).ilk.mode = s.ilk.mode ∧ (sampled k s).pto = s.pto := by
  obtain ⟨hi, hp, -⟩ := supPublished_rest (supMeasuredLast k s)
  obtain ⟨h1, -⟩ := casMeasured_steady k s
  obtain ⟨h2, -⟩ := supJudged_steady_cas k s
  obtain ⟨hd, hpd, -⟩ := disTaken_rest (disMeasured k s)
  unfold sampled
  rw [hi, hp]
  exact ⟨h2.mode.trans (h1.mode.trans (by rw [hd]; rfl)), h2.pto.trans (h1.pto.trans hpd)⟩

theorem sampled_notices : (sampled k s).ilk.notices = s.ilk.notices ++ supplyNotices k s ++ noticesAt 9 (hotTaken k s) := by
  obtain ⟨hi, -⟩ := supPublished_rest (supMeasuredLast k s)
  obtain ⟨h1, -⟩ := casMeasured_steady k s
  obtain ⟨h2, -⟩ := supJudged_steady_cas k s
  have h1n := h1.notices
  rw [(disTaken_rest (disMeasured k s)).1] at h1n
  unfold sampled
  rw [hi, h2.notices, State.modGov_ilk, h1n]
  rfl

theorem sampled_entries :
    (sampled k s).ilk.entries[(8 : Fin 32)] = (if supplyWith k.int s = s.tank.external
      then s.ilk.entries[(8 : Fin 32)]
      else entryMoved s.ilk.entries[(8 : Fin 32)] (effective (supplyTaken k s) 8) 0 false) ∧
    (sampled k s).ilk.entries[(9 : Fin 32)] =
      entryMoved s.ilk.entries[(9 : Fin 32)] (effective (hotTaken k s) 9) 0 false ∧
    (sampled k s).ilk.entries[(10 : Fin 32)] = (if supplyLowNow (supMeasuredLast k s) = s.analog.supplyLow
      then s.ilk.entries[(10 : Fin 32)]
      else entryMoved s.ilk.entries[(10 : Fin 32)] (supplyLowNow (supMeasuredLast k s)) 1000 false) := by
  obtain ⟨hi, -⟩ := supPublished_rest (supMeasuredLast k s)
  obtain ⟨h1, h8⟩ := casMeasured_steady k s
  obtain ⟨h2, h9, h10, -⟩ := supJudged_steady_cas k s
  have hd : ∀ n : Fin 32, (disTaken (disMeasured k s)).ilk.entries[n] = s.ilk.entries[n] := fun n => by
    simp only [(disTaken_rest (disMeasured k s)).1]
    rfl
  have e8 := h2.entries 8 (by decide)
  have e9 := (h1.entries 9 (by decide)).trans (hd 9)
  have e10 := (h1.entries 10 (by decide)).trans (hd 10)
  unfold sampled
  simp only [hi]
  refine ⟨?_, by rw [h9, e9], by rw [h10, e10]⟩
  rw [e8]
  exact h8

/-! ## The governor, the primer and the lines -/

theorem sampled_gov : let v := governorOnDis (disMeasured k s)
    (sampled k s).gov.state = v.gov.state ∧ (sampled k s).gov.ns = v.gov.ns ∧
      (sampled k s).gov.fallback = v.gov.fallback ∧ (GovernorTold v → GovernorTold (sampled k s)) ∧
      (sampled k s).gov.casingHot = casingHotNow (casMeasured k s) := by
  obtain ⟨-, -, hg, hl, -⟩ := supPublished_rest (supMeasuredLast k s)
  obtain ⟨h1, -⟩ := casMeasured_steady k s
  obtain ⟨h2, -⟩ := supJudged_steady_cas k s
  obtain ⟨-, -, -, hgd, -, -, -, hld⟩ := disTaken_rest (disMeasured k s)
  have b1 := h1.bounds
  have b2 := h2.bounds
  dsimp only
  unfold sampled
  generalize supPublished (supMeasuredLast k s) = u at hg hl ⊢
  generalize supJudged (supMeasuredLast k s) = q at hg hl b2
  generalize casMeasured k s = m at b1 b2 ⊢
  generalize disTaken (disMeasured k s) = w at b1 hgd hld
  generalize governorOnDis (disMeasured k s) = v at hgd hld ⊢
  rw [hg, b2.state, b2.ns, b2.fallback, b2.casingHot, ← hgd]
  refine ⟨b1.state, b1.ns, b1.fallback, fun ht => .of_eq hg (.of_links hl) (b2.told ?_), rfl⟩
  exact b1.told (.of_eq hgd (.of_links hld) ht)

theorem sampled_primer : (sampled k s).tank.priming = s.tank.priming ∧
    (sampled k s).tank.primeTimer = primeTimerAfter (disMeasured k s) := by
  obtain ⟨-, -, -, -, hp, ht⟩ := supPublished_rest (supMeasuredLast k s)
  obtain ⟨h1, -⟩ := casMeasured_steady k s
  obtain ⟨h2, -⟩ := supJudged_steady_cas k s
  obtain ⟨-, -, -, -, -, hpd, htd, -⟩ := disTaken_rest (disMeasured k s)
  have p1 := h1.primer
  have p2 := h2.primer
  unfold sampled
  generalize supPublished (supMeasuredLast k s) = u at hp ht ⊢
  generalize supJudged (supMeasuredLast k s) = q at hp ht p2
  generalize casMeasured k s = m at p1 p2
  exact ⟨hp.trans (p2.1.trans (p1.1.trans hpd)), ht.trans (p2.2.trans (p1.2.trans htd))⟩

/-- The lines before the diagnostics. -/
theorem supJudged_lines :
    Commanded (LevelCommand (sampleLevels k s)) s (supJudged (supMeasuredLast k s)) ∧
    (casMeasured k s).out.lines[relief] = s.out.lines[relief] := by
  obtain ⟨h1, -⟩ := casMeasured_steady k s
  obtain ⟨h2, -⟩ := supJudged_steady_cas k s
  have h0 : (disTaken (disMeasured k s)).out = s.out := (disTaken_rest (disMeasured k s)).2.2.1
  have hr : (casMeasured k s).out.lines[relief] = (disTaken (disMeasured k s)).out.lines[relief] :=
    h1.lines.kept fun b => by rintro (h | h) <;> cases h
  have hw : Commanded (LevelCommand (sampleLevels k s)) (casMeasured k s)
      ((casMeasured k s).modGov fun v => { v with casingHot := casingHotNow (casMeasured k s) }) := .of_out rfl
  refine ⟨(Commanded.of_out h0).trans ((h1.lines.mono LevelCommand.sampleLevels).trans (hw.trans h2.lines)), ?_⟩
  simp only [h0] at hr
  exact hr

/-! ## The casing -/

theorem casingHotNow_measured : casingHotNow (casMeasured k s) = (k.cas.valid &&
    decide ((if s.gov.casingHot then s.cfg 103 - 7 else s.cfg 103) ≤ k.cas.value)) := by
  have h := casMeasured_reacted k s
  obtain ⟨h1, -⟩ := casMeasured_steady k s
  have hh : (casMeasured k s).gov.casingHot = s.gov.casingHot :=
    h1.bounds.casingHot.trans (disTaken_rest (disMeasured k s)).2.2.2.2.1
  unfold casingHotNow
  rw [hh, h.analog, h.cfg]
  rfl

theorem reliefNow_measured : reliefNow (casMeasured k s) = (!k.cas.valid ||
    decide ((if s.out.lines[relief].commanded then s.cfg 102 - 7 else s.cfg 102) ≤ k.cas.value)) := by
  have h := casMeasured_reacted k s
  unfold reliefNow
  rw [(supJudged_lines k s).2, h.analog, h.cfg]
  rfl

/-! ## The entries' sources -/

theorem effective_supplyTaken {t : State} (hc : t.tank.water.cls = s.tank.water.cls)
    (hl : t.out.lines[tankValveLine].commanded = s.out.lines[tankValveLine].commanded)
    (he : t.tank.external = supplyWith k.int s) (hm : t.ilk.mode = s.ilk.mode) :
    effective (supplyTaken k s) 8 = effective t 8 := by
  have h1 := intMeasured_steady k s
  have h0 := disTaken_rest (disMeasured k s)
  have hline : (intMeasured k s).out.lines[tankValveLine] = s.out.lines[tankValveLine] := by
    rw [h1.lines.kept fun b => by rintro (h | h) <;> cases h]
    simp only [h0.2.2.1]
    rfl
  refine effective_reserve_congr ?_ ?_ ?_ ?_
  · rw [hc]
    exact (congrArg Tank.cls (intMeasured_reacted k s).water :)
  · rw [hl, ← hline]
    rfl
  · rw [he, ← externalNow_intMeasured]
    rfl
  · rw [hm]
    exact h1.mode.trans (by rw [h0.1]; rfl)

theorem effective_hotTaken {t : State} (hh : t.gov.casingHot = casingHotNow (casMeasured k s))
    (hm : t.ilk.mode = s.ilk.mode) : effective (hotTaken k s) 9 = effective t 9 := by
  obtain ⟨h1, -⟩ := casMeasured_steady k s
  have hl := command_lineOnly relief (reliefNow (casMeasured k s))
    ((casMeasured k s).modGov fun v => { v with casingHot := casingHotNow (casMeasured k s) })
  refine effective_hot_congr ?_ ?_
  · rw [hh]
    exact (congrArg Governor.casingHot hl.gov :)
  · rw [hm]
    exact (congrArg Interlock.mode hl.ilk).trans (h1.mode.trans (by rw [(disTaken_rest (disMeasured k s)).1]; rfl))

end Sys2Proof.Machine
end

section
/-! PROOF. The end of a sample expiry: the notices of entries 8 and 9, the governor, the primer and the diagnostics. -/

namespace Sys2Proof.Machine

variable (k : Analog) (s : State)

/-! ## The notices -/

theorem supplyTaken_entry : (supplyTaken k s).ilk.entries[(8 : Fin 32)] = s.ilk.entries[(8 : Fin 32)] := by
  refine ((intMeasured_steady k s).entries 8 (by decide)).trans ?_
  simp only [(disTaken_rest (disMeasured k s)).1]
  rfl

theorem hotTaken_entry : (hotTaken k s).ilk.entries[(9 : Fin 32)] = s.ilk.entries[(9 : Fin 32)] := by
  obtain ⟨h1, -⟩ := casMeasured_steady k s
  have hi : (hotTaken k s).ilk = (casMeasured k s).ilk := (command_ilk _ _ _).trans (State.modGov_ilk _ _)
  simp only [hi]
  refine (h1.entries 9 (by decide)).trans ?_
  simp only [(disTaken_rest (disMeasured k s)).1]
  rfl

/-- The governor alone takes the notices of the expiry, and they force it where entry 8 or 9 joins (R77). -/
theorem sampled_forces (h0 : NoticesTaken s) :
    ((sampled k s).ilk.notices.any fun x => x.actions.forceIdle) =
      (joined s.ilk.entries[(8 : Fin 32)] (sampled k s).ilk.entries[(8 : Fin 32)] ||
        joined s.ilk.entries[(9 : Fin 32)] (sampled k s).ilk.entries[(9 : Fin 32)]) ∧
    (∀ x ∈ (sampled k s).ilk.notices, Deaf (sampled k s).pto x) ∧ (sampled k s).ilk.notices.length ≤ 256 := by
  obtain ⟨e8, e9, -⟩ := sampled_entries k s
  have hn := sampled_notices k s
  rw [h0, List.nil_append] at hn
  generalize sampled k s = u at hn e8 e9 ⊢
  obtain ⟨f8, d8, l8⟩ : ((supplyNotices k s).any fun x => x.actions.forceIdle) =
      joined s.ilk.entries[(8 : Fin 32)] u.ilk.entries[(8 : Fin 32)] ∧
      (∀ x ∈ supplyNotices k s, Deaf u.pto x) ∧ (supplyNotices k s).length ≤ 1 := by
    rw [e8]
    unfold supplyNotices
    split
    · exact ⟨(joined_self _).symm, by simp, by simp⟩
    · exact noticesAt_forces (.inl rfl) (supplyTaken_entry k s) u.pto
  obtain ⟨f9, d9, l9⟩ := noticesAt_forces (.inr rfl) (hotTaken_entry k s) u.pto
  rw [← e9] at f9
  rw [hn]
  refine ⟨by rw [List.any_append, f8, f9], fun x hx => ?_, by rw [List.length_append]; omega⟩
  exact (List.mem_append.1 hx).elim (d8 x) (d9 x)

/-! ## The commands -/

/-- RELIEF as CAS has it (R89, R91). -/
theorem sampled_relief : (sampled k s).out.lines[relief].commanded = (!k.cas.valid ||
    decide ((if s.out.lines[relief].commanded then s.cfg 102 - 7 else s.cfg 102) ≤ k.cas.value)) := by
  obtain ⟨-, -, -, h⟩ := supJudged_steady_cas k s
  unfold sampled
  rw [supPublished_commanded, h, reliefNow_measured]

/-- TANK_VALVE is not commanded. -/
theorem sampled_valve :
    (sampled k s).out.lines[tankValveLine].commanded = s.out.lines[tankValveLine].commanded := by
  obtain ⟨h, -⟩ := supJudged_lines k s
  unfold sampled
  rw [supPublished_commanded, h.kept fun b => by rintro (h | h) <;> cases h]

/-! ## The diagnostics -/

theorem sampled_suspended (h1 : supplyLowNow (supMeasuredLast k s) = true) (h2 : s.analog.supplyLow = false)
    (n : Fin 10) : (sampled k s).out.lines[n].mismatch = none := by
  have hsl : (supMeasuredLast k s).analog.supplyLow = s.analog.supplyLow :=
    (congrArg Analog.supplyLow (supMeasuredLast_reacted k s).analog :)
  unfold sampled
  rw [supPublished_eq, h1, hsl, h2, if_neg (by decide), if_pos rfl]
  exact suspendDiagnostics_line n _

/-- A line that stands as it was commanded resumes its diagnostics from where it stood before the expiry. -/
theorem sampled_resumed (h1 : supplyLowNow (supMeasuredLast k s) = false) (h2 : s.analog.supplyLow = true)
    {n : Fin 10} (hn : n ≠ alarmLine) (hc : (sampled k s).out.lines[n].commanded = s.out.lines[n].commanded) :
    ∃ u : State, u.store = s.store ∧ u.out.lines[n] = s.out.lines[n] ∧
      (sampled k s).out.lines[n] = (resumeLine n u).out.lines[n] := by
  have hsl : (supMeasuredLast k s).analog.supplyLow = s.analog.supplyLow :=
    (congrArg Analog.supplyLow (supMeasuredLast_reacted k s).analog :)
  obtain ⟨hlines, -⟩ := supJudged_lines k s
  have hq : (supJudged (supMeasuredLast k s)).out.lines[n] = s.out.lines[n] := by
    rw [sampled, supPublished_commanded] at hc
    cases hg : sampleLevels k s n with
    | none =>
      refine hlines.kept fun b h => ?_
      obtain h | h := h
      · rw [hg] at h
        cases h
      · exact hn h
    | some on =>
      refine (hlines.pushed (on := on) fun b h => ?_).eq hc
      obtain h | h := h
      · rw [hg] at h
        exact (Option.some.inj h).symm
      · exact absurd h hn
  have hstore : (supJudged (supMeasuredLast k s)).store = s.store := by
    have hs : (supMeasuredLast k s).store = s.store := (supMeasuredLast_reacted k s).store
    unfold supJudged
    split
    · exact hs
    · rw [(judge_reacted 10 _).store, State.modAnalog_store, hs]
  have hres : sampled k s = resumeDiagnostics (supJudged (supMeasuredLast k s)) := by
    unfold sampled
    rw [supPublished_eq, h1, hsl, h2, if_neg (by decide), if_neg (by decide)]
  rw [hres]
  clear hc hres hlines
  generalize supJudged (supMeasuredLast k s) = q at hq hstore
  obtain ⟨u, hu, hul, h⟩ := resumeDiagnostics_line n q
  exact ⟨u, hu.store.trans hstore, hul.trans hq, h⟩

end Sys2Proof.Machine
end

section
/-! PROOF. The sample expiry (R16 to R19), assembled. -/

namespace Sys2Proof.Machine

/-- A timer that runs expires. -/
theorem exec_sampleTimerExpiry {c : Counts} {s : State} (h : s.analog.sampleTimer ≠ none) :
    exec (.sampleTimerExpiry c) s = .next (settle (sampled (measured c s) s)) := by
  have he : exec (.sampleTimerExpiry c) s = execSampleTimerExpiry c s := rfl
  rw [he, execSampleTimerExpiry, if_neg (by simpa using h), sampleAll_eq]
  rfl

/-- The prime timer of a run (R123), as DIS is measured. -/
theorem primeTimerAfter_measured (k : Analog) {s : State} (h : s.tank.priming = true) :
    primeTimerAfter (disMeasured k s) =
      if k.dis.valid && decide (s.cfg 205 ≤ k.dis.value) then some (s.tank.primeTimer.getD 1000000) else none :=
  if_pos h

/-- The governor's GOVERNOR report after a fallback (R88): SPEED at D, or IDLE where an entry has forced it. -/
theorem governor_fallback_record {t : State} {d : Int} {forced : Bool} (hs : t.gov.state = if forced then .idle else .speed)
    (hn : t.gov.ns = d) (hf : t.gov.fallback = true) : recordOf t .governor = ⟨byte t.gov.state.code,
      fitInt (if forced then 0 else d),
      byte (bit t.gov.cavitation + 2 * bit t.gov.overpressure + 4 + 8 * bit t.gov.capActive)⟩ := by
  have hset : t.gov.setpoint = if forced then 0 else d := by
    unfold Governor.setpoint
    rw [hs]
    cases forced
    · exact hn
    · rfl
  have hflags : t.gov.flags = bit t.gov.cavitation + 2 * bit t.gov.overpressure + 4 + 8 * bit t.gov.capActive := by
    unfold Governor.flags
    rw [hf]
    rfl
  unfold recordOf
  rw [hset, hflags]

/-- The channels as the statement scales them (R17). -/
theorem scaleFull_eq (z : Int) : scaleFull z = fun x : Nat => max 0 (min 2500 ((((x : Int) - z) * 2500).tdiv 3276)) := by
  funext x
  unfold scaleFull clampInt spanned
  rw [min_comm]

theorem scaleIntake_eq (z : Int) :
    scaleIntake z = fun x : Nat => max (-100) (min 1600 (-100 + (((x : Int) - z) * 1700).tdiv 3276)) := by
  funext x
  unfold scaleIntake clampInt spanned
  rw [min_comm]

theorem measured_channels (c : Counts) (s : State) :
    let head (z : Int) (x : Nat) : Int := max 0 (min 2500 ((((x : Int) - z) * 2500).tdiv 3276))
    let intake (x : Nat) : Int := max (-100) (min 1600 (-100 + (((x : Int) - s.cfg 15) * 1700).tdiv 3276))
    (measured c s).dis = sampledChannel s.analog.dis c.dis 205 3890 (head (s.cfg 14)) true ∧
    (measured c s).int = sampledChannel s.analog.int c.int 205 3890 intake true ∧
    (measured c s).hwt = sampledChannel s.analog.hwt c.hwt 205 3890 (head (s.cfg 16)) true ∧
    (measured c s).hfm = sampledChannel s.analog.hfm c.hfm 205 3890 (head (s.cfg 17)) true := by
  unfold measured
  rw [scaleFull_eq, scaleFull_eq, scaleFull_eq, scaleIntake_eq]
  exact ⟨rfl, rfl, rfl, rfl⟩

/-- A line's resumed diagnostics (R138), where a mark stands on enabled diagnostics alone. -/
theorem resumed_line {n : Fin 10} {s v : State} (hs : v.store = s.store) (hl : v.out.lines[n] = s.out.lines[n])
    (hmark : s.cfg (220 + n.val) ≠ 1 → s.out.lines[n].blankPending = false) :
    let l := s.out.lines[n]
    let time := ms ([10, 20, 50, 100, 200, 500, 1000, 2000].getD (s.cfgN (230 + n.val)) 100)
    (resumeLine n v).out.lines[n] =
      if l.diag = .ok ∧ l.blankPending = true then
        { l with diag := .blank, blank := some time, mismatch := none, blankPending := false }
      else if s.cfg (220 + n.val) = 1 ∧ l.diag = .ok ∧ l.readback ≠ l.effective then
        { l with mismatch := some 100000, blankPending := false }
      else if l.retryPhase = some .onPhase ∧ l.blank = none then
        { l with mismatch := some 100000, blankPending := false }
      else { l with blankPending := false } := by
  have hen : v.diagEnabled n = (s.cfg (220 + n.val) == 1) := by
    rw [State.diagEnabled, State.cfg, hs]
    rfl
  have htime : v.blankTime n = ms ([10, 20, 50, 100, 200, 500, 1000, 2000].getD (s.cfgN (230 + n.val)) 100) := by
    rw [State.blankTime, State.cfgN, hs]
    rfl
  have hmarked : v.out.lines[n].blankPending = true → v.diagEnabled n = true := by
    rw [hl, hen]
    intro hb
    by_contra hne
    rw [hmark (by simpa using hne)] at hb
    cases hb
  rw [resumeLine_line hmarked]
  simp only [hl, hen, htime, beq_iff_eq]

/-- Settles O19: the channels are measured and published in their order, and the lemmas on `sampled` say what each
publication leaves. -/
theorem sampleExpiryJudgesChannels : Obligations.SampleExpiryJudgesChannels := by
  intro c s h0 htimer head intake dis int hwt hfm cas sup supply low
  have hexec := exec_sampleTimerExpiry (c := c) htimer
  obtain ⟨hdis, hint, hhwt, hhfm⟩ : (measured c s).dis = dis ∧ (measured c s).int = int ∧
      (measured c s).hwt = hwt ∧ (measured c s).hfm = hfm := measured_channels c s
  have hcas : (measured c s).cas = cas := rfl
  have hsup : (measured c s).sup = sup := rfl
  have hkt : (measured c s).sampleTimer = some 10000 := rfl
  clear_value dis int hwt hfm cas sup
  generalize measured c s = k at *
  subst hdis hint hhwt hhfm hcas hsup
  have hlow : supplyLowNow (supMeasuredLast k s) = low := supplyLowNow_sampled k s
  obtain ⟨hforces, hdeaf, hlen⟩ := sampled_forces k s h0
  obtain ⟨hmode, -⟩ := sampled_mode k s
  obtain ⟨he8, he9, he10⟩ := sampled_entries k s
  obtain ⟨hstate, hns, hfb, htold, hhot⟩ := sampled_gov k s
  obtain ⟨hpriming, hprime⟩ := sampled_primer k s
  have hreact := sampled_reacted k s low hlow
  have hi := settle_idled hdeaf
  have hst := settle_state hlen hdeaf
  have hsettled := settle_reacted (sampled k s)
  have hsus := sampled_suspended k s
  have hres := sampled_resumed k s
  have hrelief := sampled_relief k s
  have hvalve := sampled_valve k s
  rw [hlow] at he10 hsus hres
  rw [casingHotNow_measured] at hhot
  have heff8 := fun t => effective_supplyTaken k s (t := t)
  have heff9 := fun t => effective_hotTaken k s (t := t)
  rw [casingHotNow_measured] at heff9
  refine ⟨_, hexec, ?_⟩
  generalize settle (sampled k s) = t at hi hst hsettled
  generalize sampled k s = u at *
  have hall := hreact.trans hsettled
  rw [hkt] at hall
  have tout : t.out = u.out := hi.out
  have tmode : t.ilk.mode = s.ilk.mode := by
    rw [hi.ilk]
    exact hmode
  have te : ∀ n : Fin 32, t.ilk.entries[n] = u.ilk.entries[n] := hi.entry
  have thot : t.gov.casingHot = u.gov.casingHot := hi.casingHot
  have tcls : t.tank.water.cls = s.tank.water.cls := (congrArg Tank.cls hall.water :)
  have tvalve : t.out.lines[tankValveLine].commanded = s.out.lines[tankValveLine].commanded := by
    simp only [tout]
    exact hvalve
  rw [heff8 t tcls tvalve hall.external tmode, ← te] at he8
  rw [heff9 t (thot.trans hhot) tmode, ← te] at he9
  rw [← te] at he10
  rw [← te, ← te] at hforces
  refine ⟨hall, fun hv => ?_, fun hv => ?_, he8, he9, he10, tmode, ⟨fun hv hp d hd => ?_, fun hkeep => ?_⟩,
    fun hp => ?_, fun h1 h2 n => ?_, fun h1 h2 hdiag n hn hc => ?_⟩
  · rw [hv] at hhot hrelief
    rw [thot, hhot]
    simp only [tout, hrelief]
    exact ⟨rfl, rfl⟩
  · rw [hv] at hhot hrelief
    rw [thot, hhot]
    simp only [tout, hrelief]
    exact ⟨rfl, rfl⟩
  · rw [governorOnDis_fallback (s := disMeasured k s) hv hp hd] at hstate hns hfb htold
    have hts : t.gov.state = if joined s.ilk.entries[(8 : Fin 32)] t.ilk.entries[(8 : Fin 32)] ||
        joined s.ilk.entries[(9 : Fin 32)] t.ilk.entries[(9 : Fin 32)] then .idle else .speed := by
      rw [hst, hforces, hstate]
      simp
    have hfallback : t.gov.fallback = true := hi.fallback.trans hfb
    have htn : t.gov.ns = d := hi.ns.trans hns
    have hreport : GovernorTold t := hi.told (htold (raise_reported _ _))
    rw [GovernorTold, governor_fallback_record hts htn hfallback] at hreport
    exact ⟨hts, htn, hfallback, hreport⟩
  · rw [governorOnDis_of_kept (s := disMeasured k s) hkeep] at hstate hns hfb
    refine ⟨?_, hi.ns.trans hns, hi.fallback.trans hfb⟩
    rw [hst, hforces, hstate]
    rfl
  · refine ⟨?_, ?_⟩
    · rw [hi.tank]
      exact hpriming.trans hp
    · rw [hi.tank]
      exact hprime.trans (primeTimerAfter_measured k hp)
  · simp only [tout]
    exact hsus h1 h2 n
  · simp only [tout] at hc ⊢
    obtain ⟨v, hvs, hvl, hv⟩ := hres h1 h2 hn hc
    obtain ⟨-, -, -, -, -, -, hoff⟩ := hdiag n
    rw [hv]
    exact resumed_line hvs hvl fun hne => (hoff hne).2.2

end Sys2Proof.Machine
end

section
/-! PROOF. DRIVE_EN through commands and stop holds (R131 to R134): no operation on the lines leaves it effective where it
is not commanded. -/

namespace Sys2Proof.Machine

/-- No stop hold turns DRIVE_EN on: its stop-state, in use and in the settings, is not ON, and a level kept on is a
commanded one (R131 to R133). -/
structure HoldSafe (s : State) : Prop where
  setting : stopStateOf (s.cfg 211) ≠ .on
  stop : s.out.hold = true → s.out.lines[driveEn].stopState ≠ .on
  kept : s.out.hold = true → s.out.lines[driveEn].stopState = .keep → s.out.lines[driveEn].kept.isSome = true
  held : s.out.hold = true → s.out.lines[driveEn].kept = some true → s.out.lines[driveEn].commanded = true

/-- DRIVE_EN is effective only where it is commanded (R133), and no stop hold turns it on. -/
structure Enabled (s : State) : Prop extends HoldSafe s where
  gated : s.out.lines[driveEn].effective = true → s.out.lines[driveEn].commanded = true

/-- What `HoldSafe` reads stands. -/
theorem HoldSafe.congr {s t : State} (h : HoldSafe s) (hc : t.store.live = s.store.live) (hh : t.out.hold = s.out.hold)
    (hstop : t.out.lines[driveEn].stopState = s.out.lines[driveEn].stopState)
    (hkept : t.out.lines[driveEn].kept = s.out.lines[driveEn].kept)
    (hcmd : t.out.lines[driveEn].commanded = s.out.lines[driveEn].commanded) : HoldSafe t where
  setting := by rw [State.cfg, hc]; exact h.setting
  stop := by rw [hh, hstop]; exact h.stop
  kept := by rw [hh, hstop, hkept]; exact h.kept
  held := by rw [hh, hkept, hcmd]; exact h.held

/-- Line O1, the settings and the hold stand. -/
theorem Enabled.of_line {s t : State} (h : Enabled s) (hc : t.store.live = s.store.live) (hh : t.out.hold = s.out.hold)
    (hl : t.out.lines[driveEn] = s.out.lines[driveEn]) : Enabled t :=
  { h.toHoldSafe.congr hc hh (by rw [hl]) (by rw [hl]) (by rw [hl]) with gated := by rw [hl]; exact h.gated }

/-- Outside a stop hold the levels of O1 alone matter. -/
theorem Enabled.of_free {s t : State} (h : Enabled s) (hc : t.store.live = s.store.live) (hh : t.out.hold = false)
    (hcmd : t.out.lines[driveEn].commanded = s.out.lines[driveEn].commanded)
    (heff : t.out.lines[driveEn].effective = s.out.lines[driveEn].effective) : Enabled t where
  setting := by rw [State.cfg, hc]; exact h.setting
  stop := fun hold => by rw [hh] at hold; cases hold
  kept := fun hold => by rw [hh] at hold; cases hold
  held := fun hold => by rw [hh] at hold; cases hold
  gated := by rw [hcmd, heff]; exact h.gated

/-- The level that R129 gives O1 is on only where it is commanded. -/
theorem HoldSafe.target {s : State} (h : HoldSafe s) (ht : targetLevel s driveEn = true) :
    s.out.lines[driveEn].commanded = true := by
  unfold targetLevel at ht
  simp only [show ¬ driveEn = fillValve by decide, false_and, if_false] at ht
  split at ht
  · rename_i hh
    cases hs : s.out.lines[driveEn].stopState <;> simp only [hs] at ht
    · cases ht
    · exact absurd hs (h.stop hh)
    · obtain ⟨b, hb⟩ := Option.isSome_iff_exists.1 (h.kept hh hs)
      rw [hb] at ht
      exact h.held hh (by rw [hb]; exact congrArg some ht)
  · split at ht
    · cases ht
    · exact ht

theorem drive_live (n : Fin 10) (s : State) : (drive n s).store.live = s.store.live :=
  congrArg Store.live (drive_reacted n s).store

/-- Driving DRIVE_EN leaves it at a level that it is commanded to. -/
theorem HoldSafe.drive {s : State} (h : HoldSafe s) : Enabled (drive driveEn s) := by
  have hl := drive_lineOnly driveEn s
  obtain ⟨h1, h2⟩ := drive_hold_fields driveEn s
  have h3 := drive_commanded driveEn s
  have hg := h.target
  exact { h.congr (drive_live driveEn s) hl.hold h1 h2 h3 with gated := by rw [drive_effective, h3]; exact hg }

theorem Enabled.drive {s : State} (h : Enabled s) (n : Fin 10) : Enabled (drive n s) := by
  by_cases hn : driveEn = n
  · subst hn
    exact h.toHoldSafe.drive
  · exact h.of_line (drive_live n s) (drive_lineOnly n s).hold ((drive_lineOnly n s).other hn)

/-- What the laws read of a line: its levels, its stop-state and its kept level. -/
def SameLevels (l k : OutputLine) : Prop :=
  k.commanded = l.commanded ∧ k.effective = l.effective ∧ k.stopState = l.stopState ∧ k.kept = l.kept

theorem endRetry_sameLevels (l : OutputLine) : SameLevels l l.endRetry := by
  obtain ⟨-, he, hc, -, hk, hs⟩ := endRetry_fields l
  exact ⟨hc, he, hs, hk⟩

theorem Enabled.modLine {s : State} (h : Enabled s) (n : Fin 10) (f : OutputLine → OutputLine)
    (hf : SameLevels s.out.lines[n] (f s.out.lines[n])) : Enabled (s.modLine n f) := by
  by_cases hn : driveEn = n
  · subst hn
    obtain ⟨hcmd, heff, hstop, hkept⟩ := hf
    have hs := State.modLine_line_self s driveEn f
    have hsafe : HoldSafe (s.modLine driveEn f) :=
      h.toHoldSafe.congr rfl rfl (by rw [hs, hstop]) (by rw [hs, hkept]) (by rw [hs, hcmd])
    exact { hsafe with gated := by rw [hs, heff, hcmd]; exact h.gated }
  · exact h.of_line rfl rfl (State.modLine_line_other s hn f)

theorem Enabled.beginRetry {s : State} (h : Enabled s) (n : Fin 10) : Enabled (beginRetry n s) := by
  unfold Machine.beginRetry
  split
  · exact (h.modLine n _ ⟨rfl, rfl, rfl, rfl⟩).drive n
  · exact h

/-- A command of off takes DRIVE_EN's kept level off with it, where it has one. -/
theorem commandTaken_kept (on : Bool) (l : OutputLine) : (commandTaken driveEn on l).kept =
    if on = false ∧ l.kept.isSome = true then some false else l.kept := by
  unfold commandTaken OutputLine.endRetry
  cases on <;> cases l.kept <;> cases l.retryPhase <;> rfl

/-- A command of any line keeps DRIVE_EN enabled. -/
theorem Enabled.command {s : State} (h : Enabled s) (n : Fin 10) (on : Bool) : Enabled (command n on s) := by
  by_cases hc : s.out.lines[n].commanded = on
  · rwa [command_line_self hc]
  rw [command_eq hc]
  by_cases hn : driveEn = n
  · subst hn
    have hs := State.modLine_line_self s driveEn (commandTaken driveEn on)
    obtain ⟨hcmd, hstop, -, -, -⟩ := commandTaken_fields driveEn on s.out.lines[driveEn]
    have hk := commandTaken_kept on s.out.lines[driveEn]
    refine (HoldSafe.drive (s := s.modLine driveEn (commandTaken driveEn on)) ?_).beginRetry driveEn
    exact
      { setting := h.setting
        stop := by rw [hs, hstop]; exact h.stop
        kept := fun hh hst => by
          rw [hs, hstop] at hst
          rw [hs, hk]
          split
          · rfl
          · exact h.kept hh hst
        held := fun hh hkept => by
          rw [hs, hk] at hkept
          rw [hs, hcmd]
          split at hkept
          · cases hkept
          · rename_i hno
            cases on
            · exact absurd ⟨rfl, by rw [hkept]; rfl⟩ hno
            · rfl }
  · have ho := State.modLine_line_other s hn (commandTaken n on)
    exact ((h.of_line rfl rfl ho : Enabled (s.modLine n (commandTaken n on))).drive n).beginRetry n

theorem Enabled.foldl {f : State → Fin 10 → State} (hf : ∀ s n, Enabled s → Enabled (f s n)) :
    ∀ (l : List (Fin 10)) {s : State}, Enabled s → Enabled (l.foldl f s)
  | [], _, h => h
  | n :: l, _, h => Enabled.foldl hf l (hf _ n h)

/-! ## The stop hold -/

/-- The stop hold begins with DRIVE_EN kept at most at its commanded level, or off (R132). -/
theorem Enabled.holdLines {s : State} (h : Enabled s) : Enabled (holdLines s) := by
  obtain ⟨⟨hh, heff, hkept⟩, hstop, hk, hcmd⟩ := holdLines_line driveEn s
  have hc : (Machine.holdLines s).cfg 211 = s.cfg 211 := (holdLines_reacted s).cfg 211
  have hset : stopSetting driveEn s ≠ .on := h.setting
  have hheld : keptTaken driveEn s = some true → s.out.lines[driveEn].commanded = true := by
    unfold keptTaken
    split
    · intro he
      simp only [Option.some.injEq, Bool.and_eq_true] at he
      exact h.gated he.1
    · exact fun he => by cases he
  refine { setting := by rw [hc]; exact h.setting, stop := fun _ => by rw [hstop]; exact hset,
           kept := fun _ => hkept, held := fun _ he => by rw [hcmd]; exact hheld (hk ▸ he), gated := ?_ }
  rw [heff, hcmd, heldLevel, holdLevel, hstop, hk]
  intro he
  simp only [Bool.and_eq_true] at he
  have hl := he.2
  split at hl
  · cases hl
  · exact absurd ‹_› hset
  · exact hheld (by simpa using hl)

/-- The stop hold ends with DRIVE_EN at its commanded level, or off in a retry (R134). -/
theorem Enabled.releaseLines {s : State} (h : Enabled s) : Enabled (releaseLines s) := by
  unfold Machine.releaseLines
  dsimp only
  refine Enabled.foldl (fun u n hu => hu.beginRetry n) _ (Enabled.foldl (fun u n hu => hu.drive n) _ ?_)
  have hf : ∀ (u : State) (n : Fin 10), LineOnly n u (u.modLine n fun l => { l with kept := none }) :=
    fun u n => .of_modLine n _ u
  obtain ⟨u, -, -, hu, hline⟩ := foldl_allLines_line hf driveEn s
  rw [State.modLine_line_self, hu] at hline
  obtain ⟨hout, -⟩ := foldl_lines_outOnly hf allLines s
  exact h.of_free (congrArg Store.live hout.store) rfl (congrArg OutputLine.commanded hline :)
    (congrArg OutputLine.effective hline :)

end Sys2Proof.Machine
end

section
/-! PROOF. What the laws of the interlock unit read (R28 to R51), and the operations of the other blocks that leave all of
it: `Quiet`. -/

namespace Sys2Proof.Machine

/-! ## The lines in fault -/

/-- No line goes into a fault or out of one. -/
def SameFaults (s t : State) : Prop := ∀ m : Fin 10, t.out.lines[m].diag.faulty = s.out.lines[m].diag.faulty

theorem SameFaults.trans {s t u : State} (h : SameFaults s t) (k : SameFaults t u) : SameFaults s u :=
  fun m => (k m).trans (h m)

theorem SameFaults.of_out {s t : State} (h : t.out = s.out) : SameFaults s t := fun _ => by rw [h]

theorem modLine_sameFaults (n : Fin 10) {f : OutputLine → OutputLine} {s : State}
    (hf : (f s.out.lines[n]).diag.faulty = s.out.lines[n].diag.faulty) : SameFaults s (s.modLine n f) := by
  intro m
  by_cases hm : m = n
  · subst hm
    rw [State.modLine_line_self, hf]
  · rw [State.modLine_line_other s hm]

theorem startBlank_sameFaults (n : Fin 10) (s : State) : SameFaults s (startBlank n s) := by
  unfold startBlank
  split
  · exact .of_out rfl
  · rename_i h
    simp only [Bool.or_eq_true, not_or, Bool.not_eq_true] at h
    exact modLine_sameFaults n h.2.symm

theorem levelChanged_sameFaults (n : Fin 10) (s : State) : SameFaults s (levelChanged n s) := by
  unfold levelChanged
  split
  · exact startBlank_sameFaults n s
  · split
    · exact modLine_sameFaults n rfl
    · exact .of_out rfl

theorem drive_sameFaults (n : Fin 10) (s : State) : SameFaults s (drive n s) := by
  unfold drive
  dsimp only
  split
  · exact .of_out rfl
  · exact (modLine_sameFaults n rfl).trans (levelChanged_sameFaults n _)

theorem beginRetry_sameFaults (n : Fin 10) (s : State) : SameFaults s (beginRetry n s) := by
  unfold beginRetry
  split
  · exact (modLine_sameFaults n rfl).trans (drive_sameFaults n _)
  · exact .of_out rfl

theorem command_sameFaults (n : Fin 10) (on : Bool) (s : State) : SameFaults s (command n on s) := by
  by_cases hc : s.out.lines[n].commanded = on
  · rw [command_line_self hc]
    exact .of_out rfl
  · rw [command_eq hc]
    obtain ⟨-, -, hd, -⟩ := commandTaken_fields n on s.out.lines[n]
    exact (modLine_sameFaults n (congrArg Diag.faulty hd)).trans
      ((drive_sameFaults n _).trans (beginRetry_sameFaults n _))

theorem SameFaults.foldl {f : State → Fin 10 → State} (hf : ∀ s n, SameFaults s (f s n)) :
    ∀ (l : List (Fin 10)) (s : State), SameFaults s (l.foldl f s)
  | [], _ => .of_out rfl
  | n :: l, s => (hf s n).trans (SameFaults.foldl hf l _)

theorem latchLine_sameFaults (s : State) (n : Fin 10) : SameFaults s (latchLine n s) := by
  refine modLine_sameFaults n ?_
  obtain ⟨-, -, -, hd, -⟩ := endRetry_fields s.out.lines[n]
  exact congrArg Diag.faulty hd

theorem holdLines_sameFaults (s : State) : SameFaults s (holdLines s) := by
  have h1 : ∀ u : State, SameFaults u (u.modOut fun o => { o with hold := true }) := fun _ _ => rfl
  exact (SameFaults.foldl latchLine_sameFaults _ s).trans ((h1 _).trans
    (SameFaults.foldl (fun s n => drive_sameFaults n s) _ _))

theorem releaseLines_sameFaults (s : State) : SameFaults s (releaseLines s) := by
  have h0 : ∀ (u : State) (n : Fin 10), SameFaults u (u.modLine n fun l => { l with kept := none }) :=
    fun u n => modLine_sameFaults n rfl
  have h1 : ∀ u : State, SameFaults u (u.modOut fun o => { o with hold := false }) := fun _ _ => rfl
  exact (SameFaults.foldl h0 _ s).trans ((h1 _).trans
    ((SameFaults.foldl (fun s n => drive_sameFaults n s) _ _).trans
      (SameFaults.foldl (fun s n => beginRetry_sameFaults n s) _ _)))

/-! ## Operations that the interlock unit does not read -/

/-- The lines whose commands the laws of the interlock unit and the entries' sources read. -/
def Watched (n : Fin 10) : Prop := n = driveEn ∨ n = thrLimit ∨ n = tankValveLine ∨ n = alarmLine

/-- `t` is `s` but for what neither the interlock unit, nor the entries' sources, nor the laws of its lines read. -/
structure Quiet (s t : State) : Prop where
  reacted : Reacted s t
  ilk : t.ilk = s.ilk
  state : t.pto.state = s.pto.state
  slip : t.pto.slip = s.pto.slip
  hot : t.gov.casingHot = s.gov.casingHot
  hold : t.out.hold = s.out.hold
  commands : ∀ n : Fin 10, Watched n → t.out.lines[n].commanded = s.out.lines[n].commanded
  faults : SameFaults s t
  enabled : Enabled s → Enabled t

theorem Quiet.trans {s t u : State} (h : Quiet s t) (k : Quiet t u) : Quiet s u where
  reacted := h.reacted.trans k.reacted
  ilk := k.ilk.trans h.ilk
  state := k.state.trans h.state
  slip := k.slip.trans h.slip
  hot := k.hot.trans h.hot
  hold := k.hold.trans h.hold
  commands := fun n hn => (k.commands n hn).trans (h.commands n hn)
  faults := h.faults.trans k.faults
  enabled := fun he => k.enabled (h.enabled he)

/-- The lines stand. -/
theorem Quiet.of_out {s t : State} (hr : Reacted s t) (hi : t.ilk = s.ilk) (hp : t.pto.state = s.pto.state)
    (hs : t.pto.slip = s.pto.slip) (hg : t.gov.casingHot = s.gov.casingHot) (ho : t.out = s.out) : Quiet s t where
  reacted := hr
  ilk := hi
  state := hp
  slip := hs
  hot := hg
  hold := by rw [ho]
  commands := fun _ _ => by rw [ho]
  faults := .of_out ho
  enabled := fun he => he.of_line (congrArg Store.live hr.store) (by rw [ho]) (by rw [ho])

theorem Quiet.refl (s : State) : Quiet s s := .of_out (.refl s) rfl rfl rfl rfl rfl

theorem Quiet.foldl {α : Type} {f : State → α → State} (hf : ∀ s a, Quiet s (f s a)) :
    ∀ (l : List α) (s : State), Quiet s (l.foldl f s)
  | [], s => .refl s
  | a :: l, s => (hf s a).trans (Quiet.foldl hf l _)

/-- One line moves, in what nobody watches. -/
theorem Quiet.of_lineOnly {n : Fin 10} {s t : State} (h : LineOnly n s t)
    (hc : Watched n → t.out.lines[n].commanded = s.out.lines[n].commanded) (hf : SameFaults s t)
    (he : Enabled s → Enabled t) : Quiet s t where
  reacted := .of_lineOnly h
  ilk := h.ilk
  state := by rw [h.pto]
  slip := by rw [h.pto]
  hot := by rw [h.gov]
  hold := h.hold
  commands := fun m hm => by
    by_cases hn : m = n
    · subst hn
      exact hc hm
    · rw [h.other hn]
  faults := hf
  enabled := he

theorem modLine_quiet (n : Fin 10) {f : OutputLine → OutputLine} {s : State} (hl : SameLevels s.out.lines[n] (f s.out.lines[n]))
    (hf : (f s.out.lines[n]).diag.faulty = s.out.lines[n].diag.faulty) : Quiet s (s.modLine n f) :=
  .of_lineOnly (.of_modLine n f s) (fun _ => by rw [State.modLine_line_self]; exact hl.1) (modLine_sameFaults n hf)
    fun he => he.modLine n f hl

theorem drive_quiet (n : Fin 10) (s : State) : Quiet s (drive n s) :=
  .of_lineOnly (drive_lineOnly n s) (fun _ => drive_commanded n s) (drive_sameFaults n s) fun he => he.drive n

theorem beginRetry_quiet (n : Fin 10) (s : State) : Quiet s (beginRetry n s) := by
  unfold beginRetry
  split
  · exact (modLine_quiet n ⟨rfl, rfl, rfl, rfl⟩ rfl).trans (drive_quiet n _)
  · exact .refl s

theorem startBlank_quiet (n : Fin 10) (s : State) : Quiet s (startBlank n s) := by
  have hf := startBlank_sameFaults n s
  unfold startBlank at hf ⊢
  split at hf <;> rename_i h
  · rw [if_pos h]
    exact .refl s
  · rw [if_neg h]
    exact .of_lineOnly (.of_modLine n _ s) (fun _ => by rw [State.modLine_line_self]) hf
      fun he => he.modLine n _ ⟨rfl, rfl, rfl, rfl⟩

theorem command_quiet {n : Fin 10} (hn : ¬ Watched n) (on : Bool) (s : State) : Quiet s (command n on s) :=
  .of_lineOnly (command_lineOnly n on s) (fun h => absurd h hn) (command_sameFaults n on s) fun he => he.command n on

theorem raise_quiet (k : ReportKey) (s : State) : Quiet s (raise k s) := .of_out (raise_reacted k s) rfl rfl rfl rfl rfl
theorem post_quiet (k : ReportKey) (c : Record) (s : State) : Quiet s (post k c s) :=
  .of_out (post_reacted k c s) rfl rfl rfl rfl rfl

theorem modGov_quiet {f : Governor → Governor} {s : State} (hf : (f s.gov).casingHot = s.gov.casingHot) :
    Quiet s (s.modGov f) := .of_out (.modGov f s) rfl rfl rfl hf rfl

theorem modPto_quiet {f : Pto → Pto} {s : State} (hs : (f s.pto).state = s.pto.state) (hl : (f s.pto).slip = s.pto.slip) :
    Quiet s (s.modPto f) := .of_out (.modPto f s) rfl hs hl rfl rfl

/-! ## The governor -/

theorem Idled.quiet {s t : State} (h : Idled s t) : Quiet s t :=
  .of_out h.reacted h.ilk (by rw [h.pto]) (by rw [h.pto]) h.casingHot h.out

theorem transfer_quiet (s : State) : Quiet s (transfer s) := by
  unfold transfer
  dsimp only
  split
  · exact (modGov_quiet rfl).trans (raise_quiet _ _)
  · exact modGov_quiet rfl

theorem departOff_quiet (s : State) : Quiet s (departOff s) := by
  unfold departOff
  dsimp only
  exact (transfer_quiet s).trans ((modGov_quiet rfl).trans ((modGov_quiet rfl).trans (raise_quiet _ _)))

theorem governorOnPto_quiet (prev : PtoState) (s : State) : Quiet s (governorOnPto prev s) := by
  have hoff : Quiet s (enterOff s) := (modGov_quiet rfl).trans (raise_quiet _ _)
  unfold governorOnPto
  split
  · split
    · exact departOff_quiet s
    · exact .refl s
  · split
    · exact departOff_quiet s
    · split
      · exact (modGov_quiet rfl).trans (raise_quiet _ _)
      · exact .refl s
  · split
    · exact .refl s
    · exact hoff
  · split
    · exact .refl s
    · exact hoff
  · exact .refl s
  · exact .refl s

theorem governorUpdate_quiet (d : Int) (s : State) : Quiet s (governorUpdate d s) := by
  unfold governorUpdate
  dsimp only
  have h : ∀ f : Governor → Governor, (∀ g, (f g).casingHot = g.casingHot) →
      Quiet s (setDuty ((transfer s).modGov f)) := fun f hf =>
    (transfer_quiet s).trans ((modGov_quiet (hf _)).trans (modGov_quiet rfl))
  split
  · exact h _ fun _ => rfl
  · refine Quiet.trans ?_ (raise_quiet _ _)
    exact h _ fun _ => rfl

theorem takeGovernor_quiet (m : GovState) (x : Int) (s : State) : Quiet s (takeGovernor m x s).1 :=
  (modGov_quiet rfl).trans (raise_quiet _ _)

theorem governorOnDis_quiet (s : State) : Quiet s (governorOnDis s) := by
  unfold governorOnDis
  split
  · split
    · exact .refl s
    · exact (modGov_quiet rfl).trans (raise_quiet _ _)
  · exact .refl s

theorem pmaxWritten_quiet (s : State) : Quiet s (pmaxWritten s) := by
  unfold pmaxWritten
  split
  · dsimp only
    split
    · exact (modGov_quiet rfl).trans (raise_quiet _ _)
    · exact modGov_quiet rfl
  · exact .refl s

/-! ## The tank monitor's control contexts -/

theorem freshWindow_quiet (v : Int) (s : State) : Quiet s (freshWindow v s) :=
  .of_out (freshWindow_reacted v s) rfl rfl rfl rfl rfl

theorem reconJudge_quiet (arrival : Bool) (s : State) : Quiet s (reconJudge arrival s) := by
  have hr := reconJudge_reacted arrival s
  unfold reconJudge at hr ⊢
  split at hr <;> exact .of_out hr rfl rfl rfl rfl rfl

theorem discardWindow_quiet (s : State) : Quiet s (s.modTank fun m => { m with fillWindow := none }) :=
  .of_out (.refl s) rfl rfl rfl rfl rfl

theorem setFill_quiet (on : Bool) (s : State) : Quiet s (setFill on s) := by
  have hc : Quiet s (command fillValve on s) := command_quiet (by unfold Watched; decide) on s
  unfold setFill
  split
  · exact .refl s
  · dsimp only
    split
    · exact hc.trans ((freshWindow_quiet _ _).trans (reconJudge_quiet _ _))
    · exact hc.trans ((discardWindow_quiet _).trans (reconJudge_quiet _ _))

theorem fillJudgeOn_quiet (v : Int) (s : State) : Quiet s (fillJudgeOn v s) := by
  have hd : Quiet s (s.modTank fun m => { m with fillMode := .off }) := .of_out (.refl s) rfl rfl rfl rfl rfl
  have hv : ∀ u : State, Quiet s u → Quiet s (setFill (fillTarget v s) u) := fun u hu => hu.trans (setFill_quiet _ u)
  unfold fillJudgeOn
  dsimp only
  split <;> split
  · exact (hv _ hd).trans (raise_quiet _ _)
  · exact hv _ hd
  · exact (hv _ (.refl s)).trans (raise_quiet _ _)
  · exact hv _ (.refl s)

theorem fillJudge_quiet (s : State) : Quiet s (fillJudge s) := fillJudgeOn_quiet _ s

theorem primer_unwatched : ¬ Watched primerLine := by unfold Watched; decide
theorem foam_unwatched : ¬ Watched foamEn := by unfold Watched; decide
theorem ready_unwatched : ¬ Watched pumpReady := by unfold Watched; decide
theorem sol_unwatched : ¬ Watched ptoSol := by unfold Watched; decide
theorem relief_unwatched : ¬ Watched relief := by unfold Watched; decide

theorem primerEnd_quiet (o : PrimerOutcome) (s : State) : Quiet s (primerEnd o s) := by
  have h : Quiet s (s.modTank fun m => { m with priming := false, outcome := o, runTimer := none, primeTimer := none }) :=
    .of_out (.refl s) rfl rfl rfl rfl rfl
  unfold primerEnd
  split
  · exact h.trans ((command_quiet primer_unwatched _ _).trans (raise_quiet _ _))
  · exact .refl s

theorem beginRun_quiet (s : State) : Quiet s (beginRun s) := by
  have h : Quiet s (s.modTank fun m => { m with
      priming := true, outcome := .none, runTimer := some (ms (1000 * s.cfgN 206))
      primeTimer := if primePressure s then some (ms 1000) else none }) := .of_out (.refl s) rfl rfl rfl rfl rfl
  exact h.trans ((command_quiet primer_unwatched _ _).trans (raise_quiet _ _))

theorem primerOnDis_quiet (s : State) : Quiet s (primerOnDis s) := by
  have hr := primerOnDis_reacted s
  unfold primerOnDis at hr ⊢
  split
  · exact .refl s
  · split
    · split
      · exact .refl s
      · exact .of_out (.refl s) rfl rfl rfl rfl rfl
    · exact .of_out (.refl s) rfl rfl rfl rfl rfl

theorem progressJudge_quiet (s : State) : Quiet s (progressJudge s) := by
  unfold progressJudge
  split
  · split
    · exact freshWindow_quiet _ s
    · exact .refl s
  · exact .refl s

theorem waterClassPublished_quiet (s : State) : Quiet s (waterClassPublished s) := by
  unfold waterClassPublished
  dsimp only
  split
  · have h : Quiet s (s.modLine fillValve fun l => { l with kept := some false }) :=
      .of_lineOnly (.of_modLine fillValve _ s) (fun h => absurd h (by unfold Watched; decide)) (modLine_sameFaults _ rfl)
        fun he => he.of_line rfl rfl (State.modLine_line_other s (by decide) _)
    exact h.trans (drive_quiet _ _)
  · exact drive_quiet _ s

/-! ## The readers of the PTO state -/

theorem tankOnPto_quiet (prev : PtoState) (s : State) : Quiet s (tankOnPto prev s) := by
  unfold tankOnPto
  dsimp only
  split
  · exact reconJudge_quiet _ s
  · exact (command_quiet foam_unwatched _ s).trans ((primerEnd_quiet _ _).trans (reconJudge_quiet _ _))

theorem pulseOnPto_quiet (prev : PtoState) (s : State) : Quiet s (pulseOnPto prev s) := by
  unfold pulseOnPto
  split
  · exact .of_out (.refl s) rfl rfl rfl rfl rfl
  · exact .refl s

theorem arbiterOnPto_quiet (s : State) : Quiet s (arbiterOnPto s) := by
  have hr := arbiterOnPto_reacted s
  unfold arbiterOnPto at hr ⊢
  split at hr <;> rename_i h
  · rw [if_pos h]
    exact .of_out hr rfl rfl rfl rfl rfl
  · rw [if_neg h]
    exact .refl s

theorem pumpReadyJudge_quiet (s : State) : Quiet s (pumpReadyJudge s) := command_quiet ready_unwatched _ s

/-- What a publication of the PTO state moves after the interlock unit has answered it. -/
theorem ptoPublish_quiet (prev : PtoState) (s : State) :
    Quiet (interlockOnPto prev (raise .pto s)) (ptoPublish prev s) :=
  (governorOnPto_quiet prev _).trans ((pumpReadyJudge_quiet _).trans ((tankOnPto_quiet prev _).trans
    ((pulseOnPto_quiet prev _).trans (arbiterOnPto_quiet _))))

theorem judgeQualify_quiet (s : State) : Quiet s (judgeQualify s) := modPto_quiet rfl rfl

theorem ptoOnQualifier_quiet (s : State) : Quiet s (ptoOnQualifier s) := by
  unfold ptoOnQualifier
  split
  · exact judgeQualify_quiet s
  · exact .refl s

/-! ## The output unit's diagnostics -/

theorem suspendDiagnostics_quiet (s : State) : Quiet s (suspendDiagnostics s) :=
  Quiet.foldl (fun _ n => modLine_quiet n ⟨rfl, rfl, rfl, rfl⟩ rfl) _ s

theorem resumeLine_quiet (n : Fin 10) (s : State) : Quiet s (resumeLine n s) := by
  have h0 : Quiet s (s.modLine n fun l => { l with blankPending := false }) := modLine_quiet n ⟨rfl, rfl, rfl, rfl⟩ rfl
  have h1 : ∀ u : State, Quiet u (u.modLine n fun l => { l with mismatch := some (ms 100) }) := fun u =>
    modLine_quiet n ⟨rfl, rfl, rfl, rfl⟩ rfl
  unfold resumeLine
  dsimp only
  split
  · exact h0.trans (startBlank_quiet n _)
  · split
    · exact h0.trans (h1 _)
    · split
      · exact h0.trans (h1 _)
      · exact h0

theorem resumeDiagnostics_quiet (s : State) : Quiet s (resumeDiagnostics s) :=
  Quiet.foldl (fun s n => resumeLine_quiet n s) _ s

theorem retryFailed_quiet (n : Fin 10) (s : State) : Quiet s (retryFailed n s) := by
  obtain ⟨-, -, -, hd, -⟩ := endRetry_fields s.out.lines[n]
  exact (modLine_quiet n (endRetry_sameLevels _) (congrArg Diag.faulty hd)).trans
    ((drive_quiet n _).trans (beginRetry_quiet n _))

end Sys2Proof.Machine
end

section
/-! PROOF. The sources of the lockout entries (R34, R35), and the operations that move some of them and leave the rest of
what the laws read: `Beside`. -/

namespace Sys2Proof.Machine

/-! ## Sources that stand -/

/-- The entries whose source is a measurement against a setting: a write moves it between judgments (R29, R34). -/
def Gauged (n : Fin 32) : Prop := n = 4 ∨ n = 5 ∨ n = 6

theorem Reacted.lapsed {s t : State} (h : Reacted s t) : t.auth.lapsed = s.auth.lapsed := by
  obtain ⟨-, -, -, -, -, -, -, -, -, -, -, -, -, -, -, -, ha, -, -⟩ := h
  exact (congrArg Authority.lapsed ha :)

theorem Reacted.fillFault {s t : State} (h : Reacted s t) : t.tank.fillFault = s.tank.fillFault := by
  obtain ⟨-, -, -, -, -, -, -, -, -, -, -, -, -, -, hf, -, -, -, -⟩ := h
  exact hf

theorem Reacted.sensorFault {s t : State} (h : Reacted s t) : sensorFault t = sensorFault s := by
  obtain ⟨-, -, -, ha, -, -, -, -, -, hp, hw, hf, -, -, -, -, -, -, -⟩ := h
  unfold Machine.sensorFault
  rw [ha, hp, hw, hf]

theorem Reacted.lineSource {s t : State} (h : Reacted s t) (n : Fin 12) : lineSource t n = lineSource s n := by
  unfold Machine.lineSource
  rw [h.disc]

/-- The source of a configurable entry whose source code is `d` (R36). -/
def configuredSource (s : State) (d : Nat) : Bool := if h : 4 ≤ d ∧ d < 12 then lineSource s ⟨d, h.2⟩ else false

theorem configuredSource_congr {s t : State} {d : Nat} (h : ∀ k : Fin 12, 4 ≤ k.val → d = k.val → lineSource t k = lineSource s k) :
    configuredSource t d = configuredSource s d := by
  unfold configuredSource
  split
  · rename_i hd
    exact h ⟨d, hd.2⟩ hd.1 rfl
  · rfl

/-- An answer to a publication leaves the sources but for those of the PTO context, the tank valve, the casing and the
lines in fault. -/
theorem sourcePresent_congr {s t : State} {n : Fin 32} (hr : Reacted s t) (hg : ¬ Gauged n)
    (hp : n = 1 ∨ n = 2 → t.pto.state = s.pto.state) (hs : n = 3 → t.pto.slip = s.pto.slip)
    (hv : n = 8 → t.out.lines[tankValveLine].commanded = s.out.lines[tankValveLine].commanded)
    (hh : n = 9 → t.gov.casingHot = s.gov.casingHot) (hf : n = 12 → SameFaults s t) :
    sourcePresent t n = sourcePresent s n := by
  have hl := hr.lineSource
  have hany : n = 12 → ∀ l : Fin 10, t.out.lines[l].diag.faulty = s.out.lines[l].diag.faulty := hf
  unfold sourcePresent
  split
  case h_1 => exact hl 3
  case h_2 h => rw [hp (.inl (Fin.ext h))]
  case h_3 h => rw [hl 2, hp (.inr (Fin.ext h))]
  case h_4 h => exact hs (Fin.ext h)
  case h_5 h => exact absurd (.inl (Fin.ext h)) hg
  case h_6 h => exact absurd (.inr (.inl (Fin.ext h))) hg
  case h_7 h => exact absurd (.inr (.inr (Fin.ext h))) hg
  case h_8 => rw [hr.disc]
  case h_9 h => rw [hr.water, hv (Fin.ext h), hr.external]
  case h_10 h => exact hh (Fin.ext h)
  case h_11 => rw [hr.analog]
  case h_12 => exact hr.sensorFault
  case h_13 h => simp only [hany (Fin.ext h)]
  case h_14 => rw [hr.store]
  case h_15 => exact hr.lapsed
  case h_16 => exact hr.fillFault
  case h_17 =>
    change configuredSource t (entrySource t n) = configuredSource s (entrySource s n)
    rw [entrySource_of_store hr.store]
    exact configuredSource_congr fun k _ _ => hl k

theorem Quiet.sources {s t : State} (h : Quiet s t) {n : Fin 32} (hg : ¬ Gauged n) :
    sourcePresent t n = sourcePresent s n :=
  sourcePresent_congr h.reacted hg (fun _ => h.state) (fun _ => h.slip)
    (fun _ => h.commands _ (.inr (.inr (.inl rfl)))) (fun _ => h.hot) fun _ => h.faults

theorem Interlocked.sources {N : Fin 32 → Prop} {s t : State} (h : Interlocked N s t) (hf : SameFaults s t) {n : Fin 32}
    (hg : ¬ Gauged n) : sourcePresent t n = sourcePresent s n :=
  sourcePresent_congr h.reacted hg (fun _ => by rw [h.pto]) (fun _ => by rw [h.pto])
    (fun _ => by rw [h.lines tankValveLine (by decide) (by decide) (by decide) (by decide)])
    (fun _ => h.bounds.casingHot) fun _ => hf

/-- Debounced states that stand leave every source. -/
theorem sourcePresent_disc {s t : State} {d : Vector SwitchLine 12} (ht : t = { s with disc := d })
    (hd : ∀ m : Fin 12, d[m].settled = s.disc[m].settled ∧ d[m].active = s.disc[m].active) (n : Fin 32) :
    sourcePresent t n = sourcePresent s n := by
  subst ht
  have hl : ∀ m, lineSource { s with disc := d } m = lineSource s m := fun m => by
    unfold lineSource
    dsimp only
    rw [(hd m).1, (hd m).2]
  unfold sourcePresent
  split
  case h_1 => exact hl 3
  case h_3 => rw [hl 2]
  case h_8 =>
    have hs : d[0].settled = s.disc[0].settled := (hd 0).1
    have ha : d[0].active = s.disc[0].active := (hd 0).2
    dsimp only
    rw [hs, ha]
  case h_17 => exact configuredSource_congr (d := entrySource s n) fun k _ _ => hl k
  all_goals rfl

/-- The entries whose source is a line's debounced state (R34, R36). -/
def ReadsLine (m : Fin 12) (s : State) (n : Fin 32) : Prop :=
  n = 0 ∧ m = 3 ∨ n = 2 ∧ m = 2 ∨ n = 7 ∧ m = 0 ∨ 16 ≤ n.val ∧ 4 ≤ m.val ∧ entrySource s n = m.val

/-- A line leaves the sources of the entries that do not read it. -/
theorem sourcePresent_modSwitch (m : Fin 12) (f : SwitchLine → SwitchLine) (s : State) {n : Fin 32}
    (hn : ¬ ReadsLine m s n) : sourcePresent (s.modSwitch m f) n = sourcePresent s n := by
  have hd : ∀ k : Fin 12, m ≠ k → (s.modSwitch m f).disc[k] = s.disc[k] := fun k hk => by
    simp [State.modSwitch, Fin.val_ne_of_ne hk]
  have hl : ∀ k : Fin 12, m ≠ k → lineSource (s.modSwitch m f) k = lineSource s k := fun k hk => by
    rw [lineSource, hd k hk, lineSource]
  unfold sourcePresent
  split
  case h_1 h => exact hl 3 fun hm => hn (.inl ⟨Fin.ext h, hm⟩)
  case h_3 h => rw [hl 2 fun hm => hn (.inr (.inl ⟨Fin.ext h, hm⟩))]; rfl
  case h_8 h =>
    have h0 : (s.modSwitch m f).disc[0] = s.disc[0] := hd 0 fun hm => hn (.inr (.inr (.inl ⟨Fin.ext h, hm⟩)))
    rw [h0]
  case h_17 =>
    refine configuredSource_congr (d := entrySource s n) fun k hk hd => hl k fun hm => hn ?_
    have h16 : 16 ≤ n.val := by
      simp only [imp_false] at *
      omega
    exact .inr (.inr (.inr ⟨h16, hm ▸ hk, hm ▸ hd⟩))
  all_goals rfl

/-! ## Operations that move some sources -/

/-- `t` is `s` but for what neither the interlock unit nor the laws of its lines read, for the PTO context, and for the
sources of the entries of `K`. -/
structure Untouched (K : Fin 32 → Prop) (s t : State) : Prop where
  running : t.ctl.startup = .running ↔ s.ctl.startup = .running
  live : t.store.live = s.store.live
  ilk : t.ilk = s.ilk
  hold : t.out.hold = s.out.hold
  commands : ∀ n : Fin 10, n = driveEn ∨ n = thrLimit ∨ n = alarmLine → t.out.lines[n].commanded = s.out.lines[n].commanded
  enabled : Enabled s → Enabled t
  sources : ∀ n, ¬ K n → ¬ Gauged n → sourcePresent t n = sourcePresent s n

/-- An operation that moves, of what the laws read, the sources of the entries of `K` alone. -/
structure Beside (K : Fin 32 → Prop) (s t : State) : Prop extends Untouched K s t where
  state : t.pto.state = s.pto.state

/-- No entry. -/
def NoEntry : Fin 32 → Prop := fun _ => False

theorem Beside.trans {K : Fin 32 → Prop} {s t u : State} (h : Beside K s t) (k : Beside K t u) : Beside K s u where
  running := k.running.trans h.running
  live := k.live.trans h.live
  ilk := k.ilk.trans h.ilk
  hold := k.hold.trans h.hold
  commands := fun n hn => (k.commands n hn).trans (h.commands n hn)
  enabled := fun he => k.enabled (h.enabled he)
  sources := fun n hk hg => (k.sources n hk hg).trans (h.sources n hk hg)
  state := k.state.trans h.state

theorem Beside.mono {K L : Fin 32 → Prop} {s t : State} (h : Beside K s t) (hKL : ∀ n, K n → L n) : Beside L s t :=
  { h with sources := fun n hn => h.sources n fun hk => hn (hKL n hk) }

theorem Quiet.beside {K : Fin 32 → Prop} {s t : State} (h : Quiet s t) : Beside K s t where
  running := by rw [h.reacted.ctl]
  live := by rw [h.reacted.store]
  ilk := h.ilk
  hold := h.hold
  commands := fun n hn => h.commands n (by obtain h | h | h := hn <;> simp [Watched, h])
  enabled := h.enabled
  sources := fun _ _ hg => h.sources hg
  state := h.state

/-- An update away from the output unit, the interlock unit, the PTO context and the live table. -/
theorem Beside.of_sources {K : Fin 32 → Prop} {s t : State} (hc : t.ctl = s.ctl) (hl : t.store.live = s.store.live)
    (hi : t.ilk = s.ilk) (hp : t.pto.state = s.pto.state) (ho : t.out = s.out)
    (hs : ∀ n, ¬ K n → sourcePresent t n = sourcePresent s n) : Beside K s t where
  running := by rw [hc]
  live := hl
  ilk := hi
  hold := by rw [ho]
  commands := fun _ _ => by rw [ho]
  enabled := fun he => he.of_line hl (by rw [ho]) (by rw [ho])
  sources := fun n hn _ => hs n hn
  state := hp

section Updates
variable {K : Fin 32 → Prop}

theorem modCtl_beside {f : ResetControl → ResetControl} {s : State}
    (hf : (f s.ctl).startup = .running ↔ s.ctl.startup = .running) : Beside K s (s.modCtl f) where
  running := hf
  live := rfl
  ilk := rfl
  hold := rfl
  commands := fun _ _ => rfl
  enabled := fun he => he.of_line rfl rfl rfl
  state := rfl
  sources := fun _ _ _ => rfl

theorem modPeriod_beside (ch : PeriodCh) (f : PeriodChannel → PeriodChannel) (s : State) : Beside K s (s.modPeriod ch f) :=
  .of_sources rfl rfl rfl rfl rfl fun _ _ => rfl

theorem modPulse_beside (f : Pulse → Pulse) (s : State) : Beside K s (s.modPulse f) :=
  .of_sources rfl rfl rfl rfl rfl fun _ _ => rfl

theorem modPwm_beside (f : Throttle → Throttle) (s : State) : Beside K s (s.modPwm f) :=
  .of_sources rfl rfl rfl rfl rfl fun _ _ => rfl

theorem modLinks_beside (f : Links → Links) (s : State) : Beside K s (s.modLinks f) :=
  .of_sources rfl rfl rfl rfl rfl fun _ _ => rfl

theorem modPort_beside (p : Port) (f : PortRecord → PortRecord) (s : State) : Beside K s (s.modPort p f) :=
  modLinks_beside _ s

/-- The road channel's counts are read by the gauged entries alone. -/
theorem modRoad_beside (f : Road → Road) (s : State) : Beside K s (s.modRoad f) where
  running := .rfl
  live := rfl
  ilk := rfl
  hold := rfl
  commands := fun _ _ => rfl
  enabled := fun he => he.of_line rfl rfl rfl
  state := rfl
  sources := fun n _ hg => by
    unfold sourcePresent
    split
    case h_5 h => exact absurd (.inl (Fin.ext h)) hg
    case h_6 h => exact absurd (.inr (.inl (Fin.ext h))) hg
    case h_7 h => exact absurd (.inr (.inr (Fin.ext h))) hg
    all_goals rfl

/-- The arbiter is read by entry 14 alone, in its lapsed condition. -/
theorem modAuth_beside {f : Authority → Authority} {s : State} (h : K 14 ∨ (f s.auth).lapsed = s.auth.lapsed) :
    Beside K s (s.modAuth f) := by
  refine .of_sources rfl rfl rfl rfl rfl fun n hn => ?_
  unfold sourcePresent
  split
  case h_15 h14 => exact h.elim (fun hk => absurd ((Fin.ext h14 : n = 14) ▸ hk) hn) id
  all_goals rfl

/-- The store is read, but for its live table, by entry 13 alone. -/
theorem modStore_beside {f : Store → Store} {s : State} (hl : (f s.store).live = s.store.live)
    (h : K 13 ∨ (f s.store).defaultsInUse = s.store.defaultsInUse) : Beside K s (s.modStore f) := by
  refine .of_sources rfl hl rfl rfl rfl fun n hn => ?_
  have hs : entrySource (s.modStore f) n = entrySource s n := by
    rw [entrySource, State.cfgN, State.modStore_store, hl]
    rfl
  unfold sourcePresent
  split
  case h_5 => rw [State.cfg, State.modStore_store, hl]; rfl
  case h_6 => rw [State.cfg, State.cfg, State.modStore_store, hl]; rfl
  case h_7 => rw [State.cfg, State.modStore_store, hl]; rfl
  case h_14 h13 => exact h.elim (fun hk => absurd ((Fin.ext h13 : n = 13) ▸ hk) hn) id
  case h_17 =>
    change configuredSource (s.modStore f) (entrySource (s.modStore f) n) = configuredSource s (entrySource s n)
    rw [hs]
    rfl
  all_goals rfl

/-- The tank monitor is read by entries 8, 11 and 15. -/
theorem modTank_beside {f : TankMonitor → TankMonitor} {s : State}
    (h8 : K 8 ∨ (f s.tank).water.cls = s.tank.water.cls ∧ (f s.tank).external = s.tank.external)
    (h11 : K 11 ∨ sensorFault (s.modTank f) = sensorFault s)
    (h15 : K 15 ∨ (f s.tank).fillFault = s.tank.fillFault) : Beside K s (s.modTank f) := by
  refine .of_sources rfl rfl rfl rfl rfl fun n hn => ?_
  unfold sourcePresent
  split
  case h_9 h =>
    obtain hk | ⟨hc, he⟩ := h8
    · exact absurd ((Fin.ext h : n = 8) ▸ hk) hn
    · rw [State.modTank_tank, hc, he]; rfl
  case h_12 h => exact h11.elim (fun hk => absurd ((Fin.ext h : n = 11) ▸ hk) hn) id
  case h_16 h => exact h15.elim (fun hk => absurd ((Fin.ext h : n = 15) ▸ hk) hn) id
  all_goals rfl

/-- The analog unit is read by entries 10 and 11. -/
theorem modAnalog_beside {f : Analog → Analog} {s : State}
    (h10 : K 10 ∨ (f s.analog).supplyLow = s.analog.supplyLow) (h11 : K 11 ∨ sensorFault (s.modAnalog f) = sensorFault s) :
    Beside K s (s.modAnalog f) := by
  refine .of_sources rfl rfl rfl rfl rfl fun n hn => ?_
  unfold sourcePresent
  split
  case h_11 h => exact h10.elim (fun hk => absurd ((Fin.ext h : n = 10) ▸ hk) hn) id
  case h_12 h => exact h11.elim (fun hk => absurd ((Fin.ext h : n = 11) ▸ hk) hn) id
  all_goals rfl

/-- The governor is read by entry 9 alone, in its casing hot condition. -/
theorem modGov_beside {f : Governor → Governor} {s : State} (h9 : K 9 ∨ (f s.gov).casingHot = s.gov.casingHot) :
    Beside K s (s.modGov f) := by
  refine .of_sources rfl rfl rfl rfl rfl fun n hn => ?_
  unfold sourcePresent
  split
  case h_10 h => exact h9.elim (fun hk => absurd ((Fin.ext h : n = 9) ▸ hk) hn) id
  all_goals rfl

/-- The slip condition is read by entry 3 alone. -/
theorem modPto_slip_beside (b : Bool) (s : State) : Beside (· = 3) s (s.modPto fun p => { p with slip := b }) := by
  refine .of_sources rfl rfl rfl rfl rfl fun n hn => ?_
  unfold sourcePresent
  split
  case h_4 h => exact absurd (Fin.ext h) hn
  all_goals rfl

/-- A line's timer and raw level are read by no entry. -/
theorem modSwitch_beside {m : Fin 12} {f : SwitchLine → SwitchLine} {s : State}
    (hf : (f s.disc[m]).settled = s.disc[m].settled ∧ (f s.disc[m]).active = s.disc[m].active) :
    Beside K s (s.modSwitch m f) := by
  refine .of_sources rfl rfl rfl rfl rfl fun n _ => sourcePresent_disc (d := s.disc.set m (f s.disc[m])) rfl (fun k => ?_) n
  by_cases hk : m = k
  · subst hk
    simpa using hf
  · simp [Fin.val_ne_of_ne hk]

/-- A line that has settled is read by its entries. -/
theorem modSwitch_beside_readers (m : Fin 12) (f : SwitchLine → SwitchLine) (s : State) :
    Beside (ReadsLine m s) s (s.modSwitch m f) :=
  .of_sources rfl rfl rfl rfl rfl fun _ hn => sourcePresent_modSwitch m f s hn

/-- A line's own record is read by entry 12, in its faults, and by entry 8, in the tank valve's command. -/
theorem beside_of_lineOnly {n : Fin 10} {s t : State} (h : LineOnly n s t)
    (hc : n = driveEn ∨ n = thrLimit ∨ n = alarmLine → t.out.lines[n].commanded = s.out.lines[n].commanded)
    (he : Enabled s → Enabled t) (h8 : K 8 ∨ n ≠ tankValveLine ∨ t.out.lines[n].commanded = s.out.lines[n].commanded)
    (h12 : K 12 ∨ SameFaults s t) : Beside K s t where
  running := by rw [(Reacted.of_lineOnly h).ctl]
  live := by rw [(Reacted.of_lineOnly h).store]
  ilk := h.ilk
  hold := h.hold
  commands := fun m hm => by
    by_cases hn : m = n
    · subst hn
      exact hc hm
    · rw [h.other hn]
  enabled := he
  state := by rw [h.pto]
  sources := fun k hk hg => by
    refine sourcePresent_congr (.of_lineOnly h) hg (fun _ => by rw [h.pto]) (fun _ => by rw [h.pto]) ?_
      (fun _ => by rw [h.gov]) ?_
    · rintro rfl
      by_cases hn : tankValveLine = n
      · subst hn
        exact h8.elim (fun h => absurd h hk) fun h => h.elim (absurd rfl) id
      · rw [h.other hn]
    · rintro rfl
      exact h12.elim (fun h => absurd h hk) id

end Updates

end Sys2Proof.Machine
end

section
/-! PROOF. A law of the interlock unit through every command (R1): `Lawful` names the operations that move what the laws
read, and whatever they keep, every block's work keeps. `P K` is the law while the sources of the entries of `K` have
moved and wait for their judgment, within a command; `Q` is the law between commands. -/

namespace Sys2Proof.Machine

/-! ## Publications of the PTO context -/

/-- The PTO controller has changed its context in `s`, with PTO_SOL, and is about to publish it: QUALIFY is entered in
PARKED alone, and ENGAGING from QUALIFY alone (R57, R58). -/
structure PtoSet (s t : State) : Prop extends Untouched (fun n => n = 1 ∨ n = 2 ∨ n = 3) s t where
  qualify : t.pto.state = .qualify → s.ilk.mode = .parked
  engaging : t.pto.state = .engaging → s.pto.state = .qualify

theorem modPto_untouched (f : Pto → Pto) (s : State) : Untouched (fun n => n = 1 ∨ n = 2 ∨ n = 3) s (s.modPto f) where
  running := .rfl
  live := rfl
  ilk := rfl
  hold := rfl
  commands := fun _ _ => rfl
  enabled := fun he => he.of_line rfl rfl rfl
  sources := fun n hn hg => by
    refine sourcePresent_congr (.modPto f s) hg ?_ ?_ (fun _ => rfl) (fun _ => rfl) fun _ _ => rfl
    · exact fun h => absurd (h.imp_right .inl) hn
    · exact fun h => absurd (.inr (.inr h)) hn

theorem PtoSet.of_modPto {f : Pto → Pto} {s : State} (hq : (f s.pto).state = .qualify → s.ilk.mode = .parked)
    (he : (f s.pto).state = .engaging → s.pto.state = .qualify) : PtoSet s (s.modPto f) :=
  { modPto_untouched f s with qualify := hq, engaging := he }

theorem PtoSet.of_command {f : Pto → Pto} {s : State} (on : Bool) (hq : (f s.pto).state = .qualify → s.ilk.mode = .parked)
    (he : (f s.pto).state = .engaging → s.pto.state = .qualify) : PtoSet s (command ptoSol on (s.modPto f)) := by
  have h := modPto_untouched f s
  have k := command_quiet sol_unwatched on (s.modPto f)
  have kb := k.beside (K := fun n => n = 1 ∨ n = 2 ∨ n = 3)
  exact
    { running := kb.running.trans h.running
      live := kb.live.trans h.live
      ilk := k.ilk.trans h.ilk
      hold := k.hold.trans h.hold
      commands := fun n hn => (kb.commands n hn).trans (h.commands n hn)
      enabled := fun he => k.enabled (h.enabled he)
      sources := fun n hn hg => (k.sources hg).trans (h.sources n hn hg)
      qualify := fun hs => hq (k.state.symm.trans hs)
      engaging := fun hs => he (k.state.symm.trans hs) }

/-! ## The law -/

/-- What an event keeps while the PTO controller moves its context and publishes it. -/
structure PtoLawful (P : State → Prop) : Prop where
  calm : ∀ {s t}, P s → Quiet s t → P t
  publishes : ∀ {s t}, P s → PtoSet s t → P (ptoPublish s.pto.state t)

/-- What every operation that moves what the laws read keeps. -/
structure Lawful (P : (Fin 32 → Prop) → State → Prop) (Q : State → Prop) : Prop extends PtoLawful (P NoEntry) where
  opens : ∀ {s}, Q s → P NoEntry s
  closes : ∀ {s}, P NoEntry s → Q (settle s)
  rests : ∀ {s t}, Q s → Beside NoEntry s t → Q t
  widens : ∀ {K L : Fin 32 → Prop} {s}, P K s → (∀ n, K n → L n) → P L s
  passes : ∀ {K : Fin 32 → Prop} {s t}, P K s → Beside K s t → P K t
  judges : ∀ {K : Fin 32 → Prop} {n s}, n ≠ 0 → P (fun m => K m ∨ m = n) s → P K (judge n s)
  joins : ∀ {n : Fin 32} {s}, s.ilk.entries[n].state = .pending → Q s → P NoEntry (join n s)
  leaves : ∀ {n : Fin 32} {s}, s.ilk.entries[n].state ≠ .pending → s.ilk.entries[n].state ≠ .active → P NoEntry s →
    P NoEntry (leave n s)
  modes : ∀ {K : Fin 32 → Prop} {s}, ¬ K 0 → P K s → P K (modeJudge s)
  entersRoll : ∀ {s}, s.pto.state = .engaged → P NoEntry s → P NoEntry (setMode .roll s)
  leavesRoll : ∀ {s}, s.ilk.mode = .roll → P NoEntry s → P NoEntry (setMode .pump s)
  silences : ∀ {s} st p, P NoEntry s → P NoEntry (bodySilenceAlarm st p s).1
  rewrites : ∀ {i n s} (v : Half), entryOfItem i = some n → P NoEntry s →
    P (· = n) ((clearEntry n s).modStore fun m => { m with live := tableSet m.live i v })
  writes : ∀ {i r s} {v : Half}, entryOfItem i = none → itemSpec i = some r → r.domain.contains (itemValue i v) = true →
    P NoEntry s → P NoEntry (s.modStore fun m => { m with live := tableSet m.live i v })
  stops : ∀ {s t}, Q s → Beside (· = 0) s t → Q (settle (judge 0 t))
  resets : ∀ {s} {f : ResetControl → ResetControl}, (∀ c, (f c).startup = c.startup) → Q s → Q ((fullReset s).modCtl f)

namespace PtoLawful

variable {P : State → Prop} (L : PtoLawful P)
include L

/-! ## The PTO controller -/

section Context
variable {s : State} (h : P s)
include h

theorem enterDisengaged (cause : Option AbandonCause) : P (enterDisengaged cause s) :=
  L.publishes h (.of_command false nofun nofun)

theorem enterFault (r : FaultReason) : P (enterFault r s) := L.publishes h (.of_command false nofun nofun)

theorem enterEngaged : P (enterEngaged s) := L.publishes h (.of_modPto nofun nofun)

theorem enterDrop : P (enterDrop s) := by
  have hp : ∀ f : Pto → Pto, (f s.pto).state = .releasing →
      P (ptoPublish s.pto.state (command ptoSol false (s.modPto f))) := fun f hf =>
    L.publishes h (.of_command false (by rw [hf]; nofun) (by rw [hf]; nofun))
  unfold Machine.enterDrop
  dsimp only
  split
  · exact hp _ rfl
  · exact L.enterDisengaged (hp _ rfl) none

theorem enterSpinDown : P (enterSpinDown s) := by
  have hp : ∀ f : Pto → Pto, (f s.pto).state = .releasing → P (ptoPublish s.pto.state (s.modPto f)) :=
    fun f hf => L.publishes h (.of_modPto (by rw [hf]; nofun) (by rw [hf]; nofun))
  unfold Machine.enterSpinDown
  dsimp only
  split
  · exact L.enterDrop (hp _ rfl)
  · exact hp _ rfl

theorem judgeConfirm : P (judgeConfirm s) := by
  unfold Machine.judgeConfirm
  split
  · exact L.enterEngaged h
  · exact h

theorem enterEngaging (hq : s.pto.state = .qualify) : P (enterEngaging s) :=
  L.judgeConfirm (L.publishes h (.of_command true nofun fun _ => hq))

theorem ptoOnEngine : P (ptoOnEngine s) := by
  unfold Machine.ptoOnEngine
  split
  · exact L.calm h (judgeQualify_quiet s)
  · exact L.judgeConfirm h
  · split
    · exact L.enterDrop h
    · exact h
  · exact h

theorem ptoOnConfirm : P (ptoOnConfirm s) := by
  unfold Machine.ptoOnConfirm
  split
  · exact L.judgeConfirm h
  · split
    · exact h
    · exact L.enterFault h _
  · split
    · exact h
    · exact L.enterDisengaged h _
  · exact h

theorem ptoOnSolenoidFault : P (ptoOnSolenoidFault s) := by
  unfold Machine.ptoOnSolenoidFault
  split
  · exact L.enterFault h _
  · exact L.enterFault h _
  · exact L.enterDisengaged h _
  · exact L.enterDrop h
  · exact h

theorem ptoOnNotice (x : Notice) : P (ptoOnNotice x s) := by
  unfold Machine.ptoOnNotice
  split
  · exact L.enterDisengaged h _
  · split
    · exact L.enterDrop h
    · exact L.enterSpinDown h
  · split
    · exact L.enterDrop h
    · split
      · exact L.enterSpinDown h
      · exact h
  · split
    · exact L.enterDrop h
    · exact h
  · exact h

end Context

/-! ## Join notices -/

/-- A join notice is taken, where the beginning of a stop hold keeps the law. -/
theorem takeNotice {x : Notice} (hx : x.entry = 0 → ∀ u, P u → P (holdBegin u)) {s : State} (h : P s) :
    P (takeNotice x s) := by
  have h1 : P (if x.actions.releasePto || x.actions.inhibitPto then Machine.ptoOnNotice x s else s) := by
    split
    · exact L.ptoOnNotice h x
    · exact h
  have h2 : ∀ u, P u → P (if x.actions.forceIdle then governorForceIdle u else u) := by
    intro u hu
    split
    · exact L.calm hu (governorForceIdle_idled u).quiet
    · exact hu
  unfold Machine.takeNotice
  dsimp only
  split
  · exact hx ‹_› _ (h2 _ h1)
  · exact h2 _ h1

end PtoLawful

/-- What holds of a state whose notices wait holds of the state once `k` of them are taken. -/
theorem takeNotices_keeps {P : State → Prop} (hdrop : ∀ s, P s → P (s.modIlk fun i => { i with notices := [] }))
    (htake : ∀ s x rest, s.ilk.notices = x :: rest → P s →
      P (takeNotice x (s.modIlk fun i => { i with notices := rest }))) :
    ∀ (k : Nat) {s : State}, P s → P (takeNotices k s)
  | 0, s, h => hdrop s h
  | k + 1, s, h => by
    unfold takeNotices
    split
    · exact h
    · exact takeNotices_keeps hdrop htake k (htake s _ _ ‹_› h)

namespace Lawful

variable {P : (Fin 32 → Prop) → State → Prop} {Q : State → Prop} (L : Lawful P Q)
include L

theorem quiet {K : Fin 32 → Prop} {s t : State} (h : P K s) (hq : Quiet s t) : P K t := L.passes h hq.beside

/-- A source has moved, and its entry is judged. -/
theorem sensed {K : Fin 32 → Prop} {n : Fin 32} {s t : State} (hn : n ≠ 0) (h : P K s) (hb : Beside (· = n) s t) :
    P K (judge n t) :=
  L.judges hn (L.passes (L.widens h fun _ hk => .inl hk) (hb.mono fun _ hk => .inr hk))

/-- An entry is judged though its source may stand. -/
theorem judged {n : Fin 32} {s : State} (hn : n ≠ 0) (h : P NoEntry s) : P NoEntry (judge n s) :=
  L.sensed hn h (Quiet.refl s).beside

theorem owed {n : Fin 32} {s : State} (hn : n ≠ 0) (h : P (· = n) s) : P NoEntry (judge n s) :=
  L.judges hn (L.widens h fun _ hk => .inr hk)

/-- The entries of a list are judged. -/
theorem judgesList : ∀ (l : List (Fin 32)) {K : Fin 32 → Prop} {s : State}, (∀ n ∈ l, n ≠ 0) →
    P (fun m => K m ∨ m ∈ l) s → P K (l.foldl (fun s n => judge n s) s)
  | [], _, _, _, h => L.widens h fun n hn => hn.elim id fun hm => absurd hm List.not_mem_nil
  | n :: l, K, s, h0, h => by
    refine judgesList l (fun m hm => h0 m (.tail n hm)) (L.judges (h0 n (.head l)) (L.widens h fun m hm => ?_))
    rcases hm with hm | hm
    · exact .inl (.inl hm)
    · obtain rfl | hm := List.mem_cons.1 hm
      · exact .inr rfl
      · exact .inl (.inr hm)

/-! ## The speeds -/

section Speeds
variable {s : State} (h : P NoEntry s)
include h

theorem slipCheck : P NoEntry (slipCheck s) := by
  unfold Machine.slipCheck
  split
  · exact h
  · dsimp only
    split
    · exact h
    · exact L.sensed (by decide) h (modPto_slip_beside _ s)

theorem ratePublished (ch : PeriodCh) : P NoEntry (ratePublished ch s) := by
  unfold Machine.ratePublished
  split
  · exact L.ptoOnEngine h
  · unfold ptoOnPump
    split
    · exact L.judgeConfirm h
    · exact L.slipCheck h
    · exact h
  · exact h

theorem periodEdge (ch : PeriodCh) : P NoEntry (periodEdge ch s) := by
  have h1 : ∀ f : PeriodChannel → PeriodChannel, P NoEntry (if ch = .flow then
      (s.modPeriod ch f).modPulse fun p => { p with flowCount := p.flowCount + 1 } else s.modPeriod ch f) := by
    intro f
    have hf := L.passes h (modPeriod_beside ch f s)
    split
    · exact L.passes hf (modPulse_beside _ _)
    · exact hf
  unfold Machine.periodEdge
  dsimp only
  split
  · exact h
  · split
    · exact L.ratePublished (L.passes (h1 _) (modPeriod_beside ch _ _)) ch
    · exact h1 _

end Speeds

/-! ## The inputs -/

theorem standstillPublished {s : State} (h : P NoEntry s) : P NoEntry (standstillPublished s) :=
  L.quiet (L.modes id h) (ptoOnQualifier_quiet _)

/-- A line's debounced state has been published: its entries are judged. -/
theorem switchPublished {n : Fin 12} {s : State} (hn : n ≠ 3) (h : P (ReadsLine n s) s) : P NoEntry (switchPublished n s) := by
  have hreads : ∀ (K : Fin 32 → Prop), (∀ m, ReadsLine n s m → K m) → P K s := fun K hK => L.widens h hK
  unfold Machine.switchPublished
  split
  · subst n
    have h7 : P (· = 7) s := hreads _ fun m hm => by
      obtain ⟨-, hm⟩ | ⟨-, hm⟩ | ⟨hm, -⟩ | ⟨-, hm, -⟩ := hm
      · exact absurd hm (by decide)
      · exact absurd hm (by decide)
      · exact hm
      · exact absurd hm (by decide)
    exact L.quiet (L.owed (by decide) (L.modes (by decide) h7)) (ptoOnQualifier_quiet _)
  · rename_i h0
    split
    · subst n
      refine L.quiet (hreads _ fun m hm => ?_) (ptoOnQualifier_quiet _)
      obtain ⟨-, hm⟩ | ⟨-, hm⟩ | ⟨-, hm⟩ | ⟨-, hm, -⟩ := hm <;> exact absurd hm (by decide)
    · rename_i h1
      split
      · subst n
        have h2 : P (· = 2) s := hreads _ fun m hm => by
          obtain ⟨-, hm⟩ | ⟨hm, -⟩ | ⟨-, hm⟩ | ⟨-, hm, -⟩ := hm
          · exact absurd hm (by decide)
          · exact hm
          · exact absurd hm (by decide)
          · exact absurd hm (by decide)
        exact L.ptoOnConfirm (L.owed (by decide) h2)
      · rename_i h2
        refine L.judgesList _ (fun m hm => ?_) (hreads _ fun m hm => .inr ?_)
        · obtain ⟨-, hm⟩ := List.mem_filter.1 hm
          simp only [Bool.and_eq_true, decide_eq_true_eq] at hm
          rintro rfl
          exact absurd hm.1 (by decide)
        · obtain ⟨-, hm⟩ | ⟨-, hm⟩ | ⟨-, hm⟩ | ⟨hm, -, hs⟩ := hm
          · exact absurd hm hn
          · exact absurd hm h2
          · exact absurd hm h0
          · refine List.mem_filter.2 ⟨mem_allEntries m, ?_⟩
            simp [hm, hs]

end Lawful

end Sys2Proof.Machine
end

section
/-! PROOF. A law of the interlock unit through the work of the other blocks: the analog unit, the tank monitor, the output
unit, the arbiter and the settings store. -/

namespace Sys2Proof.Machine

/-! ## The tank monitor's probes -/

/-- Entry 11 reads no probe but in its state. -/
theorem modProbe_beside {K : Fin 32 → Prop} (hK : K 11) (i : Fin 6) (f : Probe → Probe) (s : State) :
    Beside K s (s.modProbe i f) := modTank_beside (.inr ⟨rfl, rfl⟩) (.inl hK) (.inr rfl)

theorem foldl_beside {α : Type} {K : Fin 32 → Prop} {f : State → α → State} (hf : ∀ s a, Beside K s (f s a)) (l : List α)
    (s : State) : Beside K s (l.foldl f s) :=
  List.foldlRecOn l f (Quiet.refl s).beside fun u hu a _ => hu.trans (hf u a)

theorem levelWork_beside (r : Vector Byte 6) (s : State) : Beside (fun n => n = 8 ∨ n = 11) s (levelWork r s) := by
  have h11 : (fun n : Fin 32 => n = 8 ∨ n = 11) 11 := .inr rfl
  have h1 : Beside (fun n => n = 8 ∨ n = 11) s (takeReadings r s) := by
    unfold takeReadings
    split
    · exact (Quiet.refl s).beside
    · exact foldl_beside (fun u i => modProbe_beside h11 i _ u) _ s
  have h2 : ∀ (t : TankId) (u : State), Beside (fun n => n = 8 ∨ n = 11) u (probeVolumes t u) := fun t u =>
    foldl_beside (fun u i => modProbe_beside h11 i _ u) _ u
  unfold levelWork
  dsimp only
  exact ((h1.trans (h2 .water _)).trans (h2 .foam _)).trans (modTank_beside (.inl (Or.inl rfl)) (.inl h11) (.inr rfl))

/-- Candidates and runs are read by no entry. -/
theorem dropRuns_beside {K : Fin 32 → Prop} (s : State) : Beside K s (dropRuns s) := by
  refine modTank_beside (.inr ⟨rfl, rfl⟩) (.inr ?_) (.inr rfl)
  unfold sensorFault
  simp [allProbes]

namespace Lawful

variable {P : (Fin 32 → Prop) → State → Prop} {Q : State → Prop} (L : Lawful P Q)
include L

/-! ## The analog unit -/

section Analog
variable {s : State} (h : P (· = 11) s)
include h

theorem disPublished : P NoEntry (disPublished s) :=
  L.owed (by decide) (L.quiet h ((governorOnDis_quiet s).trans (primerOnDis_quiet _)))

theorem intPublished : P NoEntry (intPublished s) := by
  unfold Machine.intPublished
  dsimp only
  refine L.owed (by decide) ?_
  split
  · exact h
  · have h8 : P (· = 11) (judge 8 (s.modTank fun m => { m with external := externalNow s })) :=
      L.sensed (by decide) h (modTank_beside (.inl rfl) (.inr rfl) (.inr rfl))
    exact L.quiet h8 ((fillJudge_quiet _).trans (reconJudge_quiet _ _))

theorem headPublished (t : TankId) (valid : Bool) : P NoEntry (headPublished t valid s) := by
  refine L.owed (by decide) (L.passes h ?_)
  cases t
  · exact modTank_beside (.inr ⟨rfl, rfl⟩) (.inr rfl) (.inr rfl)
  · exact modTank_beside (.inr ⟨rfl, rfl⟩) (.inr rfl) (.inr rfl)

theorem casPublished : P NoEntry (casPublished s) := by
  refine L.owed (by decide) ?_
  unfold casingJudge
  dsimp only
  exact L.sensed (by decide) h
    ((modGov_beside (K := (· = 9)) (.inl rfl)).trans (command_quiet relief_unwatched _ _).beside)

end Analog

theorem supPublished {s : State} (h : P NoEntry s) : P NoEntry (supPublished s) := by
  unfold Machine.supPublished
  dsimp only
  split
  · exact h
  · have h10 : P NoEntry (judge 10 (s.modAnalog fun a => { a with supplyLow := supplyLowNow s })) :=
      L.sensed (by decide) h (modAnalog_beside (.inl rfl) (.inr rfl))
    split
    · exact L.quiet (L.passes h10 (dropRuns_beside _)) (suspendDiagnostics_quiet _)
    · exact L.quiet h10 (resumeDiagnostics_quiet _)

/-- A channel is converted: entry 11 is to be judged. -/
theorem converted {s : State} (h : P NoEntry s) {f : Analog → Analog} (hf : (f s.analog).supplyLow = s.analog.supplyLow) :
    P (· = 11) (s.modAnalog f) :=
  L.passes (L.widens h fun _ hk => absurd hk id) (modAnalog_beside (.inr hf) (.inl rfl))

theorem sampleAll (c : Counts) {s : State} (h : P NoEntry s) : P NoEntry (sampleAll c s) := by
  unfold Machine.sampleAll
  extract_lets s1 s2 hwt s3 hfm s4 s5
  have h1 : P NoEntry s1 := L.disPublished (L.converted h rfl)
  clear_value s1
  have h2 : P NoEntry s2 := L.intPublished (L.converted h1 rfl)
  clear_value s2
  have h3 : P NoEntry s3 := L.headPublished (L.converted h2 rfl) _ _
  clear_value s3
  have h4 : P NoEntry s4 := L.headPublished (L.converted h3 rfl) _ _
  clear_value s4
  have h5 : P NoEntry s5 := L.casPublished (L.converted h4 rfl)
  clear_value s5
  exact L.supPublished (L.passes h5 (modAnalog_beside (.inr rfl) (.inr rfl)))

/-! ## The tank monitor -/

theorem levelPublish (old : State) {s : State} (h : P (fun n => n = 8 ∨ n = 11) s) : P NoEntry (levelPublish old s) := by
  have hreport : ∀ (t : TankId) (k : Tank) (u : State), Quiet u (tankReport t k u) := by
    intro t k u
    unfold tankReport
    dsimp only
    split
    · exact .refl u
    · exact raise_quiet _ u
  have htotal : ∀ (u : State) (n : Nat), P (fun n => n = 8 ∨ n = 11) u →
      P (fun n => n = 8 ∨ n = 11) (u.modTank fun m => { m with sessionTotal := n }) := fun u n hu =>
    L.passes hu (modTank_beside (.inr ⟨rfl, rfl⟩) (.inr rfl) (.inr rfl))
  have hfresh : ∀ (u : State) (w : Option ReconWindow), P NoEntry u → P NoEntry (u.modTank fun m => { m with recon := w }) :=
    fun u w hu => L.passes hu (modTank_beside (.inr ⟨rfl, rfl⟩) (.inr rfl) (.inr rfl))
  have hrecon : ∀ u : State, P NoEntry u → P NoEntry (reconExpiry u) := by
    intro u hu
    unfold reconExpiry
    split
    · exact hu
    · dsimp only
      split
      · exact hfresh _ _ hu
      · split
        · exact hu
        · split
          · exact hfresh _ _ (L.quiet hu (post_quiet _ _ _))
          · exact hfresh _ _ hu
  have h2 := htotal _ (sessionTotalOf (tankReport .foam old.tank.foam (tankReport .water old.tank.water s)))
    (L.quiet h ((hreport .water old.tank.water s).trans (hreport .foam old.tank.foam _)))
  have h3 : P NoEntry (judge 11 (judge 8 (waterClassPublished _))) :=
    L.owed (by decide) (L.judges (by decide) (L.widens (L.quiet h2 (waterClassPublished_quiet _)) fun _ hk => hk.symm))
  unfold Machine.levelPublish
  dsimp only
  refine hrecon _ (L.quiet ?_ ((fillJudge_quiet _).trans ((progressJudge_quiet _).trans (reconJudge_quiet _ _))))
  split
  · exact L.quiet h3 (command_quiet foam_unwatched _ _)
  · exact h3

theorem fillFails {s : State} (h : P NoEntry s) : P NoEntry (fillFails s) := by
  refine L.sensed (by decide) h ?_
  have h1 : Beside (· = 15) s (s.modTank fun m => { m with fillMode := .off, fillFault := true }) :=
    modTank_beside (.inr ⟨rfl, rfl⟩) (.inr rfl) (.inl rfl)
  exact h1.trans ((setFill_quiet false _).trans ((discardWindow_quiet _).trans (raise_quiet _ _))).beside

theorem setTankValve (on : Bool) {s : State} (h : P NoEntry s) : P NoEntry (setTankValve on s) := by
  unfold Machine.setTankValve
  split
  · exact h
  · refine L.quiet (L.sensed (by decide) h ?_) (reconJudge_quiet _ _)
    exact beside_of_lineOnly (command_lineOnly tankValveLine on s) (fun hn => absurd hn (by decide)) (fun he => he.command _ _) (.inl rfl)
      (.inr (command_sameFaults _ _ _))

theorem takeFillMode (m : FillMode) {s : State} (h : P NoEntry s) : P NoEntry (takeFillMode m s) := by
  have h1 : P NoEntry (judge 15 (s.modTank fun k => { k with fillFault := false, fillWindow := none, fillMode := m })) :=
    L.sensed (by decide) h (modTank_beside (.inr ⟨rfl, rfl⟩) (.inr rfl) (.inl rfl))
  unfold Machine.takeFillMode
  dsimp only
  refine L.quiet ?_ (raise_quiet _ _)
  split
  · exact L.quiet h1 ((fillJudgeOn_quiet _ _).trans (freshWindow_quiet _ _))
  · exact L.quiet h1 (fillJudgeOn_quiet _ _)

/-! ## The output unit -/

theorem diagPublished (n : Fin 10) {s : State} (h : P (· = 12) s) : P NoEntry (diagPublished n s) := by
  have h12 := L.owed (n := 12) (by decide) h
  unfold Machine.diagPublished
  dsimp only
  split
  · exact L.ptoOnSolenoidFault h12
  · exact h12

/-- A line's diagnostics move: entry 12 is to be judged. -/
theorem diagnosed {s : State} (h : P (· = 12) s) (n : Fin 10) {f : OutputLine → OutputLine}
    (hf : SameLevels s.out.lines[n] (f s.out.lines[n])) : P (· = 12) (s.modLine n f) := by
  have hc : (s.modLine n f).out.lines[n].commanded = s.out.lines[n].commanded := by rw [State.modLine_line_self]; exact hf.1
  exact L.passes h (beside_of_lineOnly (.of_modLine n f s) (fun _ => hc) (fun he => he.modLine n f hf) (.inr (.inr hc))
    (.inl rfl))

theorem unjudged {n : Fin 32} {s : State} (h : P NoEntry s) : P (· = n) s := L.widens h fun _ hk => absurd hk id

theorem enterLineFault (n : Fin 10) (d : Diag) {s : State} (h : P NoEntry s) : P NoEntry (enterLineFault n d s) := by
  refine L.diagPublished n (L.quiet (L.quiet ?_ (raise_quiet _ _)) (beginRetry_quiet n _))
  exact L.diagnosed (L.unjudged h) n ⟨rfl, rfl, rfl, rfl⟩

theorem retryGood (n : Fin 10) {s : State} (h : P NoEntry s) : P NoEntry (retryGood n s) := by
  refine L.diagPublished n (L.quiet ?_ (raise_quiet _ _))
  exact L.diagnosed (L.unjudged h) n (endRetry_sameLevels s.out.lines[n])

theorem clearLine (n : Fin 10) {s : State} (h : P (· = 12) s) : P (· = 12) (clearLine n s) := by
  obtain ⟨-, -, -, hd, -⟩ := endRetry_fields s.out.lines[n]
  have h0 : Quiet s (s.modLine n fun l => { l.endRetry with retryCount := 0 }) :=
    modLine_quiet n (endRetry_sameLevels s.out.lines[n]) (congrArg Diag.faulty hd)
  have h1 := L.quiet h (h0.trans (drive_quiet n _))
  refine L.quiet ?_ (raise_quiet _ _)
  exact L.diagnosed h1 n ⟨rfl, rfl, rfl, rfl⟩

theorem clearFaults {s : State} (st : Station) (p : Port) (h : P NoEntry s) : P NoEntry (bodyClearOutputFaults st p s).1 :=
  L.owed (by decide) (List.foldlRecOn _ _ (L.unjudged h) fun _ hu n _ => L.clearLine n hu)

theorem disableLine (n : Fin 10) {s : State} (h : P NoEntry s) : P NoEntry (disableLine n s) := by
  unfold Machine.disableLine
  dsimp only
  split
  · refine L.owed (by decide) (L.quiet (L.quiet ?_ (drive_quiet n _)) (raise_quiet _ _))
    exact L.diagnosed (L.unjudged h) n ⟨rfl, rfl, rfl, rfl⟩
  · rename_i hf
    simp only [Bool.not_eq_true] at hf
    refine L.quiet (L.quiet h ?_) (drive_quiet n _)
    exact modLine_quiet n ⟨rfl, rfl, rfl, rfl⟩ hf.symm

/-! ## The arbiter -/

/-- The arbiter ends the lapsed condition, if it stands, and reports. -/
theorem revived {s : State} (h : P NoEntry s) {f : Authority → Authority} (hf : (f s.auth).lapsed = false) :
    P NoEntry (if s.auth.lapsed then judge 14 (raise .authority (s.modAuth f)) else raise .authority (s.modAuth f)) ∧
    (s.auth.lapsed = false → P NoEntry (s.modAuth f)) := by
  refine ⟨?_, fun hl => L.passes h (modAuth_beside (.inr (hf.trans hl.symm)))⟩
  split
  · exact L.sensed (by decide) h ((modAuth_beside (K := (· = 14)) (.inl rfl)).trans (raise_quiet _ _).beside)
  · rename_i hl
    simp only [Bool.not_eq_true] at hl
    exact L.quiet (L.passes h (modAuth_beside (.inr (hf.trans hl.symm)))) (raise_quiet _ _)

theorem arbiterFrame (st : Station) {s : State} (h : P NoEntry s) : P NoEntry (arbiterFrame st s) := by
  obtain ⟨h1, h2⟩ := L.revived h (f := fun a => { a with silence := some s.silenceTime, lapsed := false }) rfl
  unfold Machine.arbiterFrame
  dsimp only
  split
  · split <;> rename_i hl
    · rwa [if_pos hl] at h1
    · exact h2 (by simpa using hl)
  · exact h

theorem grant (st : Station) (p : Port) {s : State} (h : P NoEntry s) : P NoEntry (grant st p s) := (L.revived h rfl).1

omit L in
theorem passOn_beside {K : Fin 32 → Prop} (s : State) : Beside K s (passOn s) := by
  unfold passOn
  split
  · exact modAuth_beside (.inr rfl)
  · split <;> exact modAuth_beside (.inr rfl)
  · exact modAuth_beside (.inr rfl)

theorem lapse {s : State} (h : P NoEntry s) : P NoEntry (lapse s) :=
  L.sensed (by decide) h ((passOn_beside s).trans ((modAuth_beside (K := (· = 14)) (.inl rfl)).trans (raise_quiet _ _).beside))

theorem arbiterRestart (p : Port) {s : State} (h : P NoEntry s) : P NoEntry (arbiterRestart p s) := by
  have h1 : P NoEntry (if tiedTo p s.auth.claimant s.auth.servicePort then withdrawClaim s else s) := by
    split
    · exact L.passes h (modAuth_beside (.inr rfl))
    · exact h
  have h2 : ∀ (c : Prop) [Decidable c] (u : State), P NoEntry u → P NoEntry (if c then passOn u else u) := by
    intro c _ u hu
    split
    · exact L.passes hu (passOn_beside u)
    · exact hu
  unfold Machine.arbiterRestart
  dsimp only
  split
  · exact L.quiet (h2 _ _ h1) (raise_quiet _ _)
  · exact h2 _ _ h1

/-! ## The settings store -/

theorem completeStore (snap : List Half) (left : Option NvImage) {s : State} (h : P NoEntry s) :
    P NoEntry (completeStore snap left s) := by
  unfold Machine.completeStore
  dsimp only
  refine L.quiet ?_ (post_quiet _ _ _)
  split
  · exact L.sensed (by decide) h (modStore_beside rfl (.inl rfl))
  · rename_i hc
    refine L.passes h (modStore_beside rfl (.inr ?_))
    cases hi : s.store.defaultsInUse
    · rfl
    · simpa [hi] using hc

theorem tableWritten (t : TankId) {s : State} (h : P NoEntry s) : P NoEntry (tableWritten t s) := by
  refine L.sensed (by decide) h ?_
  cases t
  · exact modTank_beside (.inr ⟨rfl, rfl⟩) (.inl rfl) (.inr rfl)
  · exact modTank_beside (.inr ⟨rfl, rfl⟩) (.inl rfl) (.inr rfl)

theorem rejudgeLine (n : Fin 12) {s : State} (h : P NoEntry s) : P NoEntry (rejudgeLine n s) := by
  unfold Machine.rejudgeLine
  dsimp only
  exact L.passes h (modSwitch_beside ⟨rfl, rfl⟩)

/-- The owner of an item that is no configurable entry's takes a write. -/
theorem ownerTakes {i : Nat} (hi : entryOfItem i = none) {s : State} (h : P NoEntry s) : P NoEntry (ownerTakes i s) := by
  unfold Machine.ownerTakes
  split
  · dsimp only
    split
    · exact L.rejudgeLine _ h
    · exact h
  · split
    · exact L.quiet h (pmaxWritten_quiet s)
    · split
      · dsimp only
        split
        · exact L.quiet h (startBlank_quiet _ s)
        · exact L.disableLine _ h
      · rw [hi]
        cases tankOfItem i
        · exact h
        · exact L.tableWritten _ h

/-- A write that is taken. -/
theorem takeWrite {i : Nat} {r : ItemSpec} {v : Half} (hr : itemSpec i = some r)
    (hv : r.domain.contains (itemValue i v) = true) {s : State} (h : P NoEntry s) : P NoEntry (takeWrite i v s) := by
  unfold Machine.takeWrite
  cases hi : entryOfItem i with
  | none => exact L.ownerTakes hi (L.writes hi hr hv h)
  | some n =>
    have hn : n ≠ 0 ∧ 256 ≤ i ∧ tankOfItem i = none := by
      unfold entryOfItem at hi
      split at hi
      · rename_i hb
        cases hi
        refine ⟨fun h0 => ?_, hb.1, ?_⟩
        · have := congrArg Fin.val h0
          simp at this
        · unfold tankOfItem
          rw [if_neg (by omega), if_neg (by omega)]
      · cases hi
    obtain ⟨hn0, h256, htank⟩ := hn
    dsimp only
    unfold Machine.ownerTakes
    rw [dif_neg (by omega), if_neg (by omega), dif_neg (by omega), htank, hi]
    exact L.owed hn0 (L.rewrites v hi h)

end Lawful

end Sys2Proof.Machine
end

section
/-! PROOF. A law of the interlock unit through every request and every command (R1): `Lawful.exec`. -/

namespace Sys2Proof.Machine

/-- A request's owner keeps the law. -/
def Body.Keeps (P : (Fin 32 → Prop) → State → Prop) (b : Body) : Prop :=
  ∀ st p s, P NoEntry s → P NoEntry (b st p s).1

/-! The reads change nothing. -/

section Reads
variable {P : (Fin 32 → Prop) → State → Prop}

theorem bodyReadSetting_keeps (i : Half) : (bodyReadSetting i).Keeps P := fun st p s h => by
  unfold bodyReadSetting
  split <;> exact h

theorem bodyReadEntry_keeps (n : Byte) : (bodyReadEntry n).Keeps P := fun st p s h => by
  unfold bodyReadEntry
  split <;> exact h

theorem bodyReadMeasurements_keeps (g : Byte) : (bodyReadMeasurements g).Keeps P := fun st p s h => by
  unfold bodyReadMeasurements
  split; · exact h
  split; · exact h
  split; · exact h
  split <;> exact h

/-- A read that answers from the state as it stands. -/
theorem read_keeps (f : State → List Byte) : Body.Keeps P fun _ _ s => (s, .withData (f s)) := fun _ _ _ h => h

end Reads

/-- A command answers a next state, between commands in the law. -/
def Ends (Q : State → Prop) (o : Host.Outcome State Fault Refusal) : Prop := ∃ t, o = .next t ∧ Q t

theorem Ends.next {Q : State → Prop} {t : State} (h : Q t) : Ends Q (.next t) := ⟨t, rfl, h⟩

theorem Ends.ite {Q : State → Prop} {p : Prop} [Decidable p] {a b : Host.Outcome State Fault Refusal}
    (ha : p → Ends Q a) (hb : ¬ p → Ends Q b) : Ends Q (if p then a else b) := by
  split
  · exact ha ‹_›
  · exact hb ‹_›

/-! ## The end of a stop hold -/

theorem releaseLines_apart (s : State) : Apart s (releaseLines s) := by
  have h0 : ∀ (u : State) (n : Fin 10), Apart u (u.modLine n fun l => { l with kept := none }) := fun u n =>
    .of_lineOnly (.of_modLine n _ u)
  exact (Apart.foldl h0 _ s).trans ((modOut_apart _ _).trans
    ((Apart.foldl (fun u n => .of_lineOnly (drive_lineOnly n u)) _ _).trans
      (Apart.foldl (fun u n => .of_lineOnly (beginRetry_lineOnly n u)) _ _)))

theorem holdEnd_apart (s : State) : Apart s (holdEnd s) := by
  have h : Apart s (fillJudge (setDuty (releaseLines s))) :=
    (releaseLines_apart s).trans ((setDuty_apart _).trans (fillJudgeOn_apart _ _))
  unfold holdEnd
  dsimp only
  split
  · exact h.trans (modTank_apart _ _)
  · exact h

/-- An entry that leaves is CLEAR and off the list, entry 0 too (R41, R42). -/
theorem leaves_ilk (n : Fin 32) (s : State) : ∃ c, (leave n s).ilk = { s.ilk with
    entries := s.ilk.entries.set n ⟨.clear, none, false⟩, active := s.ilk.active.filter (· != n), cadence := c } := by
  by_cases hn : n = 0
  · subst hn
    obtain ⟨c, hc⟩ := listChanged_ilk (actionsInForce s) (raise (.lockout 0)
      ((s.modEntry 0 fun _ => ⟨.clear, none, false⟩).modIlk fun k =>
        { k with active := k.active.filter (fun m => m != 0) }))
    refine ⟨c, ?_⟩
    unfold leave
    dsimp only
    rw [if_pos rfl, (holdEnd_apart _).ilk, hc]
    simp
  · exact leave_ilk hn s

theorem leave_entry_self (n : Fin 32) (s : State) : (leave n s).ilk.entries[n] = ⟨.clear, none, false⟩ := by
  obtain ⟨c, h⟩ := leaves_ilk n s
  simp [h]

theorem leave_entry_other {m n : Fin 32} (hm : m ≠ n) (s : State) : (leave n s).ilk.entries[m] = s.ilk.entries[m] := by
  obtain ⟨c, h⟩ := leaves_ilk n s
  simp [h, Fin.val_ne_of_ne hm.symm]

/-- An entry that is neither PENDING nor ACTIVE stays so while others leave. -/
theorem leave_untaken {m n : Fin 32} {s : State} (h : s.ilk.entries[m].state ≠ .pending ∧ s.ilk.entries[m].state ≠ .active) :
    (leave n s).ilk.entries[m].state ≠ .pending ∧ (leave n s).ilk.entries[m].state ≠ .active := by
  by_cases hm : m = n
  · subst hm
    rw [leave_entry_self]
    exact ⟨nofun, nofun⟩
  · rwa [leave_entry_other hm]

namespace Lawful

variable {P : (Fin 32 → Prop) → State → Prop} {Q : State → Prop} (L : Lawful P Q)
include L

/-! ## The requests -/

theorem leavesList : ∀ (l : List (Fin 32)) {s : State},
    (∀ n ∈ l, s.ilk.entries[n].state ≠ .pending ∧ s.ilk.entries[n].state ≠ .active) → P NoEntry s →
    P NoEntry (l.foldl (fun s n => leave n s) s)
  | [], _, _, h => h
  | n :: l, _, hl, h =>
    leavesList l (fun m hm => leave_untaken (hl m (.tail n hm)))
      (L.leaves (hl n (.head l)).1 (hl n (.head l)).2 h)

theorem acknowledgesAll : bodyAcknowledgeAll.Keeps P := fun st p s h => by
  refine L.leavesList _ (fun n hn => ?_) h
  have hs : s.ilk.entries[n].state = .held := by simpa using (List.mem_filter.1 hn).2
  rw [hs]
  exact ⟨by decide, by decide⟩

theorem acknowledges (n : Byte) : (bodyAcknowledge n).Keeps P := fun st p s h => by
  unfold bodyAcknowledge
  split
  · exact L.acknowledgesAll st p s h
  · split
    · dsimp only
      split
      · rename_i hs
        exact L.leaves (by rw [hs]; decide) (by rw [hs]; decide) h
      · exact h
      · exact h
      · exact h
    · exact h

theorem entersRollBody : bodyEnterRoll.Keeps P := fun st p s h => by
  unfold bodyEnterRoll
  split; · exact h
  split; · exact h
  split; · exact h
  split; · exact h
  split; · exact h
  split; · exact h
  rename_i hp _
  dsimp only
  exact L.entersRoll (by simpa using hp) h

theorem leavesRollBody : bodyLeaveRoll.Keeps P := fun st p s h => by
  unfold bodyLeaveRoll
  split; · exact h
  split; · exact h
  split; · exact h
  rename_i hm _
  dsimp only
  exact L.leavesRoll (by simpa using hm) h

theorem engages : bodyPtoEngage.Keeps P := fun st p s h => by
  unfold bodyPtoEngage
  split; · exact h
  split; · exact h
  split; · exact h
  split
  · exact h
  · exact h
  · exact h
  · exact h
  · exact h
  · rename_i hd
    split; · exact h
    split; · exact h
    rename_i hm _
    dsimp only
    rw [← hd]
    exact L.publishes h (.of_modPto (fun _ => by simpa using hm) nofun)

theorem releases : bodyPtoRelease.Keeps P := fun st p s h => by
  unfold bodyPtoRelease
  split; · exact h
  split
  · exact h
  · exact h
  · exact h
  · dsimp only
    exact L.enterDisengaged h _
  · dsimp only
    exact L.enterSpinDown h
  · dsimp only
    exact L.enterSpinDown h

theorem clearsFault : bodyClearPtoFault.Keeps P := fun st p s h => by
  unfold bodyClearPtoFault
  split; · exact h
  split; · exact h
  split; · exact h
  dsimp only
  exact L.enterDisengaged h _

theorem setsGovernor (m : Byte) (v : Half) : (bodySetGovernor m v).Keeps P := fun st p s h => by
  unfold bodySetGovernor
  split; · exact h
  dsimp only
  split; · exact h
  split; · exact h
  split; · exact h
  split; · exact h
  split; · exact h
  exact L.quiet h (takeGovernor_quiet _ _ s)

theorem setsValve (x : Byte) : (bodyTankValve x).Keeps P := fun st p s h => by
  unfold bodyTankValve
  split; · exact h
  split; · exact h
  split; · exact L.setTankValve false h
  split; · exact h
  split; · exact h
  exact L.setTankValve true h

theorem setsFoam (x : Byte) : (bodyFoamPump x).Keeps P := fun st p s h => by
  unfold bodyFoamPump
  split; · exact h
  split; · exact h
  split; · exact L.quiet h (command_quiet foam_unwatched _ s)
  split; · exact h
  split; · exact h
  split; · exact h
  split; · exact h
  exact L.quiet h (command_quiet foam_unwatched _ s)

theorem setsFill (x : Byte) : (bodySetFillMode x).Keeps P := fun st p s h => by
  unfold bodySetFillMode
  split; · exact h
  split; · exact h
  split; · exact h
  exact L.takeFillMode _ h

theorem startsPrimer : bodyPrimerStart.Keeps P := fun st p s h => by
  unfold bodyPrimerStart
  split; · exact h
  split; · exact h
  split; · exact h
  split; · exact h
  split; · exact h
  split; · exact h
  exact L.quiet h (beginRun_quiet s)

theorem stopsPrimer : bodyPrimerStop.Keeps P := fun st p s h => by
  unfold bodyPrimerStop
  split; · exact h
  exact L.quiet h (primerEnd_quiet _ s)

theorem takes : bodyTakeAuthority.Keeps P := fun st p s h => by
  unfold bodyTakeAuthority
  split; · exact h
  split; · exact h
  split; · exact L.grant st p h
  split; · exact h
  split
  · exact L.quiet (L.passes h (modAuth_beside (.inr rfl))) (raise_quiet _ _)
  · exact h

theorem yields : bodyYieldAuthority.Keeps P := fun st p s h => by
  unfold bodyYieldAuthority
  split; · exact L.quiet (L.passes h (passOn_beside s)) (raise_quiet _ _)
  split
  · exact L.quiet (L.passes h (modAuth_beside (.inr rfl))) (raise_quiet _ _)
  · exact h

theorem writesSetting (i v : Half) : (bodyWriteSetting i v).Keeps P := fun st p s h => by
  unfold bodyWriteSetting
  dsimp only
  split; · exact h
  split; · exact h
  rename_i r hr
  split; · exact h
  split; · exact h
  rename_i hv
  split; · exact h
  exact L.takeWrite hr (by simpa using hv) h

theorem storesSettings : bodyStoreSettings.Keeps P := fun st p s h => by
  unfold bodyStoreSettings
  split; · exact h
  split; · exact h
  dsimp only
  exact L.passes h (modStore_beside rfl (.inr rfl))

theorem fetches : bodyFetchReports.Keeps P := fun _ p s h => by
  unfold bodyFetchReports
  dsimp only
  exact L.passes h (modPort_beside p _ s)

omit L in
theorem resync_beside {K : Fin 32 → Prop} (p : Port) (s : State) : Beside K s (resync p s) :=
  foldl_beside (fun u _ => modPort_beside p _ u) _ s

theorem restarts : bodyLinkRestart.Keeps P := fun _ p _ h =>
  L.passes (L.passes (L.arbiterRestart p h) (modPort_beside p _ _)) (resync_beside p _)

theorem kindOf {code : Nat} {k : Kind} (hk : kindOf code = some k) (p : List Byte) : (k.body p).Keeps P := by
  unfold Machine.kindOf at hk
  split at hk
  case h_1 => cases hk; exact read_keeps _
  case h_2 => cases hk; exact bodyReadMeasurements_keeps _
  case h_3 => cases hk; exact read_keeps _
  case h_4 => cases hk; exact bodyReadEntry_keeps _
  case h_5 => cases hk; exact bodyReadSetting_keeps _
  case h_6 => cases hk; exact L.fetches
  case h_7 => cases hk; exact L.takes
  case h_8 => cases hk; exact L.yields
  case h_9 => cases hk; exact L.engages
  case h_10 => cases hk; exact L.releases
  case h_11 => cases hk; exact L.clearsFault
  case h_12 => cases hk; exact L.setsGovernor _ _
  case h_13 => cases hk; exact L.entersRollBody
  case h_14 => cases hk; exact L.leavesRollBody
  case h_15 => cases hk; exact L.setsValve _
  case h_16 => cases hk; exact L.setsFoam _
  case h_17 => cases hk; exact L.setsFill _
  case h_18 => cases hk; exact L.startsPrimer
  case h_19 => cases hk; exact L.stopsPrimer
  case h_20 => cases hk; exact L.acknowledges _
  case h_21 => cases hk; exact fun st p _ h => L.silences st p h
  case h_22 => cases hk; exact fun st p _ h => L.clearFaults st p h
  case h_23 => cases hk; exact L.writesSetting _ _
  case h_24 => cases hk; exact L.storesSettings
  case h_25 => cases hk; exact L.restarts
  case h_26 => cases hk

theorem decodeBody (code : Nat) (payload : List Byte) : (decodeBody code payload).Keeps P := by
  unfold Machine.decodeBody
  split
  · exact fun _ _ _ h => h
  · split
    · exact L.kindOf ‹_› _
    · exact fun _ _ _ h => h

/-! ## Frames -/

theorem handFrame (h : Header) (kind : Nat) (isRead : Bool) {b : Body} (hb : b.Keeps P) {s : State} (hs : P NoEntry s) :
    Q (handFrame h kind isRead b s) := by
  have h1 := L.arbiterFrame (stationOf h.port h.origin) hs
  have h2 := L.closes (hb (stationOf h.port h.origin) h.port _ h1)
  unfold Machine.handFrame
  dsimp only
  split
  · exact L.closes h1
  · split
    · exact h2
    · exact L.rests h2 (modPort_beside _ _ _)

theorem serve (h : Header) (kind : Nat) (isRead : Bool) {b : Body} (hb : b.Keeps P) {s : State} (hs : Q s) :
    Ends Q (.next (serve h kind isRead b s)) := by
  refine .next ?_
  unfold Machine.serve
  split
  · exact L.handFrame h kind isRead hb (L.opens (L.rests hs (modPort_beside _ _ s)))
  · exact hs

theorem settled {t : State} (h : P NoEntry t) : Ends Q (.next (settle t)) := .next (L.closes h)

theorem appendChar (p : Port) (f : List Byte) (d : Byte) {s : State} (hs : Q s) : Q (appendChar p f d s) := by
  unfold Machine.appendChar
  dsimp only
  split
  · exact L.rests hs (modPort_beside _ _ s)
  · split
    · have hw := L.rests hs (modPort_beside p PortRecord.waiting s)
      unfold frameComplete
      split
      · exact L.handFrame _ _ _ (L.decodeBody _ _) (L.opens hw)
      · exact hw
    · exact L.rests hs (modPort_beside _ _ s)

/-! ## Commands that one block takes by itself -/

section Commands
variable {s : State} (h : Q s)
include h

theorem still {t : State} (hb : Beside NoEntry s t) : Ends Q (.next t) := .next (L.rests h hb)

theorem rawLevelChange (n : Fin 12) (c : Contact) : Ends Q (execRawLevelChange n c s) := by
  have h1 : Q (s.modSwitch n fun l => { l with raw := c }) := L.rests h (modSwitch_beside ⟨rfl, rfl⟩)
  unfold execRawLevelChange
  dsimp only
  refine .ite (fun _ => .next h) fun _ => .ite (fun _ => .next h1) fun _ => .ite (fun _ => ?_) fun _ => ?_
  · unfold Machine.rejudgeLine
    dsimp only
    exact L.still h1 (modSwitch_beside ⟨rfl, rfl⟩)
  · exact L.still h1 (modSwitch_beside ⟨rfl, rfl⟩)

theorem debounceExpiry (n : Fin 12) : Ends Q (execDebounceExpiry n s) := by
  unfold execDebounceExpiry
  refine .ite (fun _ => .next h) fun _ => .next ?_
  have hb := modSwitch_beside_readers n (fun l => { l with active := interpret s n l.raw, debounce := none, settled := true }) s
  by_cases hn : n = 3
  · subst hn
    have h0 : Beside (· = 0) s _ := hb.mono fun m hm => by
      obtain ⟨hm, -⟩ | ⟨-, hm⟩ | ⟨-, hm⟩ | ⟨-, hm, -⟩ := hm
      · exact hm
      · exact absurd hm (by decide)
      · exact absurd hm (by decide)
      · exact absurd hm (by decide)
    exact L.stops h h0
  · exact L.closes (L.switchPublished hn (L.passes (L.widens (L.opens h) fun _ hk => absurd hk id) hb))

theorem beginStartup_ends {f : ResetControl → ResetControl} (hf : ∀ c, (f c).startup = c.startup) :
    Ends Q (.next (beginStartup (s.modCtl f))) := by
  have h1 : Q (s.modCtl f) := L.rests h (modCtl_beside (by rw [hf]))
  unfold beginStartup
  split
  · rename_i hs
    exact L.still h1 (modCtl_beside (iff_of_false nofun (by rw [hs.1]; nofun)))
  · exact .next h1

theorem gateTimerExpiry : Ends Q (execGateTimerExpiry s) := by
  unfold execGateTimerExpiry
  refine .ite (fun _ => .next h) fun _ => L.settled ?_
  have h1 : P NoEntry (judge 5 (judge 4 (s.modRoad fun r => r.gateClosed (s.cfg 13)))) :=
    L.judged (by decide) (L.judged (by decide) (L.passes (L.opens h) (modRoad_beside _ s)))
  split
  · exact h1
  · exact L.standstillPublished h1

theorem roadEdge (ph : RoadPhase) : Ends Q (execRoadEdge ph s) := by
  have h1 := L.rests h (modRoad_beside (flipPhase ph) s)
  unfold execRoadEdge
  dsimp only
  exact .ite (fun _ => .next h1) fun _ => L.settled (L.judged (by decide) (L.passes (L.opens h1) (modRoad_beside _ _)))

theorem updateTimerExpiry : Ends Q (execUpdateTimerExpiry s) := by
  unfold execUpdateTimerExpiry
  split
  · exact .ite (fun _ => .next h) fun _ => L.still h (governorUpdate_quiet _ s).beside
  · exact .next h

theorem readbackChange (n : Fin 10) (level : Bool) : Ends Q (execReadbackChange n level s) := by
  have h1 : Q (s.modLine n fun l => { l with readback := level }) :=
    L.rests h (modLine_quiet n ⟨rfl, rfl, rfl, rfl⟩ rfl).beside
  unfold execReadbackChange
  dsimp only
  refine .ite (fun _ => .next h) fun _ => .ite (fun _ => .next h1) fun _ => ?_
  split
  · exact L.still h1 (modLine_quiet n ⟨rfl, rfl, rfl, rfl⟩ rfl).beside
  · exact .ite (fun _ => L.still h1 (modLine_quiet n ⟨rfl, rfl, rfl, rfl⟩ rfl).beside) fun _ => .next h1
  · exact .next h1

theorem blankTimerExpiry (n : Fin 10) : Ends Q (execBlankTimerExpiry n s) := by
  unfold execBlankTimerExpiry
  dsimp only
  refine .ite (fun _ => .next h) fun _ => ?_
  split
  · rename_i hd
    exact L.still h (modLine_quiet n ⟨rfl, rfl, rfl, rfl⟩ (by rw [hd]; rfl)).beside
  · exact L.still h (modLine_quiet n ⟨rfl, rfl, rfl, rfl⟩ rfl).beside

theorem mismatchTimerExpiry (n : Fin 10) : Ends Q (execMismatchTimerExpiry n s) := by
  unfold execMismatchTimerExpiry
  dsimp only
  refine .ite (fun _ => .next h) fun _ => .ite (fun _ => L.settled ?_) fun _ => L.settled (L.enterLineFault n _ (L.opens h))
  split
  · exact L.retryGood n (L.opens h)
  · exact L.quiet (L.opens h) (retryFailed_quiet n s)

theorem retryTimerExpiry (n : Fin 10) : Ends Q (execRetryTimerExpiry n s) := by
  unfold execRetryTimerExpiry
  refine .ite (fun _ => .next h) fun _ => .next (L.rests (L.rests h ?_) (drive_quiet n _).beside)
  exact (modLine_quiet n ⟨rfl, rfl, rfl, rfl⟩ rfl).beside

theorem storeCompletes (left : Option NvImage) : Ends Q (execStoreComplete left s) := by
  unfold execStoreComplete
  split
  · exact L.settled (L.completeStore _ _ (L.opens h))
  · exact .next h

theorem characterReceive (p : Port) (d : Byte) (mark bad : Bool) : Ends Q (execCharacterReceive p d mark bad s) := by
  unfold execCharacterReceive
  refine .ite (fun _ => .next h) fun _ => .ite (fun _ => L.still h (modPort_beside _ _ s)) fun _ => ?_
  split
  · exact .next h
  · exact .ite (fun _ => L.still h (modPort_beside _ _ s)) fun _ => .next (L.appendChar _ _ _ h)

end Commands

/-! ## Every command -/

/-- A command other than the cadence's expiry and the load keeps the law. -/
theorem exec {c : Instr} (hc : c ≠ .cadenceTimerExpiry) (hl : c ≠ .loadComplete) {s : State} (h : Q s) : Ends Q (exec c s) := by
  have ho := L.opens h
  cases c with
  | cadenceTimerExpiry => exact absurd rfl hc
  | loadComplete => exact absurd rfl hl
  | periodEdge ch => exact L.settled (L.periodEdge ho ch)
  | staleTimerExpiry ch =>
    exact .ite (fun _ => .next h) fun _ => L.settled (L.ratePublished (L.passes ho (modPeriod_beside ch _ s)) ch)
  | roadEdge ph => exact L.roadEdge h ph
  | gateTimerExpiry => exact L.gateTimerExpiry h
  | sampleTimerExpiry k => exact .ite (fun _ => .next h) fun _ => L.settled (L.sampleAll k ho)
  | rawLevelChange n x => exact L.rawLevelChange h n x
  | debounceExpiry n => exact L.debounceExpiry h n
  | brownOut => exact .next (L.resets (fun _ => rfl) h)
  | supplyHoldExpiry => exact .ite (fun _ => .next h) fun _ => L.beginStartup_ends h fun _ => rfl
  | resetPinAssert => exact .next (L.resets (fun _ => rfl) h)
  | resetPinRelease => exact .ite (fun _ => .next h) fun _ => L.beginStartup_ends h fun _ => rfl
  | entryDelayExpiry n => exact .ite (fun hp => L.settled (L.joins hp h)) fun _ => .next h
  | enterRoll r => exact L.serve r _ _ L.entersRollBody h
  | leaveRoll r => exact L.serve r _ _ L.leavesRollBody h
  | acknowledgeLockout r n => exact L.serve r _ _ (L.acknowledges n) h
  | acknowledgeLockoutAll r => exact L.serve r _ _ L.acknowledgesAll h
  | silenceAlarm r => exact L.serve r _ _ (fun st p _ hs => L.silences st p hs) h
  | ptoEngage r => exact L.serve r _ _ L.engages h
  | ptoRelease r => exact L.serve r _ _ L.releases h
  | clearPtoFault r => exact L.serve r _ _ L.clearsFault h
  | windowTimerExpiry => exact .ite (fun _ => L.settled (L.enterDisengaged ho _)) fun _ => .next h
  | holdTimerExpiry => exact .ite (fun hp => L.settled (L.enterEngaging ho hp.1)) fun _ => .next h
  | confirmTimerExpiry => exact .ite (fun _ => L.settled (L.enterFault ho _)) fun _ => .next h
  | spinDownTimerExpiry => exact .ite (fun _ => L.settled (L.enterDrop ho)) fun _ => .next h
  | dropTimerExpiry => exact .ite (fun _ => L.settled (L.enterFault ho _)) fun _ => .next h
  | updateTimerExpiry => exact L.updateTimerExpiry h
  | setGovernor r m v => exact L.serve r _ _ (L.setsGovernor m v) h
  | pwmPeriodEnd => exact L.still h (modPwm_beside _ s)
  | levelTimerExpiry r =>
    exact .ite (fun _ => .next h) fun _ => L.settled (L.levelPublish s
      (L.passes (L.widens ho fun _ hk => absurd hk id) (levelWork_beside r s)))
  | progressWindowExpiry => exact .ite (fun _ => .next h) fun _ => L.settled (L.fillFails ho)
  | tankValve r p => exact L.serve r _ _ (L.setsValve p) h
  | foamPump r p => exact L.serve r _ _ (L.setsFoam p) h
  | setFillMode r p => exact L.serve r _ _ (L.setsFill p) h
  | primerStart r => exact L.serve r _ _ L.startsPrimer h
  | primerStop r => exact L.serve r _ _ L.stopsPrimer h
  | primeTimerExpiry => exact .ite (fun _ => .next h) fun _ => L.still h (primerEnd_quiet _ s).beside
  | runTimerExpiry => exact .ite (fun _ => .next h) fun _ => L.still h (primerEnd_quiet _ s).beside
  | readbackChange n x => exact L.readbackChange h n x
  | blankTimerExpiry n => exact L.blankTimerExpiry h n
  | mismatchTimerExpiry n => exact L.mismatchTimerExpiry h n
  | retryTimerExpiry n => exact L.retryTimerExpiry h n
  | clearOutputFaults r => exact L.serve r _ _ (fun st p _ hs => L.clearFaults st p hs) h
  | takeAuthority r => exact L.serve r _ _ L.takes h
  | yieldAuthority r => exact L.serve r _ _ L.yields h
  | silenceTimerExpiry => exact .ite (fun _ => .next h) fun _ => L.settled (L.lapse ho)
  | characterReceive p d m b => exact L.characterReceive h p d m b
  | gapTimerExpiry p => exact .ite (fun _ => .next h) fun _ => L.still h (modPort_beside _ _ s)
  | replyTransmitStart p => exact .ite (fun _ => L.still h (modPort_beside _ _ s)) fun _ => .next h
  | replyComplete p => exact .ite (fun _ => L.still h (modPort_beside _ _ s)) fun _ => .next h
  | readStatus r => exact L.serve r _ _ (read_keeps statusData) h
  | readMeasurements r g => exact L.serve r _ _ (bodyReadMeasurements_keeps g) h
  | readLockouts r => exact L.serve r _ _ (read_keeps lockoutsData) h
  | readEntry r n => exact L.serve r _ _ (bodyReadEntry_keeps n) h
  | readSetting r i => exact L.serve r _ _ (bodyReadSetting_keeps i) h
  | fetchReports r => exact L.serve r _ _ L.fetches h
  | linkRestart r => exact L.serve r _ _ L.restarts h
  | writeSetting r i v => exact L.serve r _ _ (L.writesSetting i v) h
  | storeSettings r => exact L.serve r _ _ L.storesSettings h
  | storeComplete left => exact L.storeCompletes h left
  | supplyRiseAbove6V => exact .ite (fun _ => .next h) fun _ => L.still h (modCtl_beside .rfl)

end Lawful

end Sys2Proof.Machine
end

section
/-! PROOF. The start of service (R172) under a law of the interlock unit, and the mode law (R27, R28, R58). -/

namespace Sys2Proof.Machine

/-! ## The start of service -/

theorem startTank_beside (t : TankId) (s : State) : Beside (· = 11) s (startTank t s) := by
  unfold startTank
  dsimp only
  cases t
  · exact modTank_beside (.inr ⟨rfl, rfl⟩) (.inl rfl) (.inr rfl)
  · exact modTank_beside (.inr ⟨rfl, rfl⟩) (.inl rfl) (.inr rfl)

theorem startTanks_beside (s : State) : Beside (· = 11) s (startTanks s) :=
  ((startTank_beside .water s).trans (startTank_beside .foam _)).trans
    (modTank_beside (.inr ⟨rfl, rfl⟩) (.inr rfl) (.inr rfl))

theorem startInputs_beside {K : Fin 32 → Prop} (s : State) : Beside K s (startInputs s) := by
  unfold startInputs
  dsimp only
  refine Beside.trans ?_ (foldl_beside (fun u n => modSwitch_beside ⟨rfl, rfl⟩) _ _)
  exact (modRoad_beside _ s).trans (modAnalog_beside (.inr rfl) (.inr rfl))

theorem startPort_beside {K : Fin 32 → Prop} (p : Port) (s : State) : Beside K s (startPort p s) :=
  (modPort_beside p _ s).trans (Lawful.resync_beside p _)

/-- A law that stands once every entry has been judged stands at the end of the load. -/
theorem Lawful.begins {P : (Fin 32 → Prop) → State → Prop} {Q : State → Prop} (L : Lawful P Q) {s : State}
    (h : P NoEntry (judgeAll (interlockLines (s.modCtl fun c => { c with startup := .running })))) :
    Q (settle (beginService s)) := by
  have h1 := L.sensed (n := 11) (by decide) h (startTanks_beside _)
  have h2 := L.quiet h1 (Quiet.foldl (fun u n => startBlank_quiet n u) allLines _)
  exact L.closes (L.passes (L.passes (L.passes h2 (startInputs_beside _)) (startPort_beside .a _)) (startPort_beside .b _))

/-! ## What joins, leaves and silences leave alone -/

/-- A join is a judgment but for the notice it gives. -/
theorem join_eq (n : Fin 32) (s : State) : ∃ u, Judged (· = n) s u ∧
    join n s = u.modIlk fun k => { k with notices := u.ilk.notices ++ noticeOf n s } := by
  refine ⟨_, listMoved_judged n ⟨.active, none, false⟩ (· ++ [n]) (fun l m hm => by simp [hm]) nofun
    (actionsInForce s) s, ?_⟩
  unfold join noticeOf
  dsimp only
  split
  · rfl
  · simp [State.modIlk]

theorem leave_pto (n : Fin 32) (s : State) : (leave n s).pto = s.pto := by
  have h : ∀ b u, (listChanged b u).pto = u.pto := fun b u => (listChanged_judged (N := fun _ => True) b u).pto
  unfold leave
  dsimp only
  split
  · rw [(holdEnd_apart _).pto, h]; rfl
  · rw [h]; rfl

theorem clearEntry_cases (n : Fin 32) (s : State) : clearEntry n s = s ∧ s.ilk.entries[n].state = .clear ∨
    clearEntry n s = (s.modEntry n fun e => { e with state := .clear, delay := none }) ∧ s.ilk.entries[n].state = .pending ∨
    clearEntry n s = leave n s := by
  unfold clearEntry
  split
  · exact .inl ⟨rfl, ‹_›⟩
  · exact .inr (.inl ⟨rfl, ‹_›⟩)
  · exact .inr (.inr rfl)
  · exact .inr (.inr rfl)

theorem silence_cases (n : Fin 32) (s : State) : silence n s = s ∨
    silence n s = raise (.lockout n) (s.modEntry n fun e => { e with silenced := true }) := by
  unfold silence
  split
  · exact .inl rfl
  · exact .inr rfl

/-! ## The mode law -/

/-- The mode law, and PARKED in QUALIFY and ENGAGING. -/
def ModeKept (s : State) : Prop := ModeLaw s ∧ QualifyLaw s

theorem ModeKept.congr {s t : State} (h : ModeKept s) (hm : t.ilk.mode = s.ilk.mode) (hp : t.pto.state = s.pto.state) :
    ModeKept t := by
  unfold ModeKept ModeLaw QualifyLaw at *
  rwa [hm, hp]

theorem ModeKept.judged {N : Fin 32 → Prop} {s t : State} (h : ModeKept s) (hj : Judged N s t) : ModeKept t :=
  h.congr hj.mode (by rw [hj.pto])

/-- A law of the mode and the PTO state that the judged mode keeps. -/
theorem modeJudged_kept {s : State} (h : ModeKept s) : ModeKept (moveMode (modeJudged s) s) := by
  obtain ⟨hmode, hqual⟩ := h
  have hp : (moveMode (modeJudged s) s).pto = s.pto := (moveMode_interlocked _ s).pto
  unfold ModeKept ModeLaw QualifyLaw
  rw [moveMode_mode, hp]
  unfold modeJudged
  dsimp only
  split
  · exact ⟨nofun, fun _ => rfl⟩
  · split
    · rename_i hd
      exact ⟨nofun, fun hq => by rw [hd.2.2] at hq; exact hq.elim nofun nofun⟩
    · split
      · rename_i hr
        have hs := hmode (.inr hr.1)
        exact ⟨fun _ => hs, fun hq => absurd (hqual hq) (by rw [hr.1]; decide)⟩
      · exact ⟨hmode, hqual⟩

theorem modeJudge_kept {s : State} (h : ModeKept s) : ModeKept (modeJudge s) := by
  rw [modeJudge_eq]
  exact modeJudged_kept h

/-- A mode that the interlock unit moves to in a PTO state that the law allows. -/
theorem setMode_kept {m : Mode} {s : State} (hm : m = .pump ∨ m = .roll → s.pto.state = .engaged ∨ s.pto.state = .releasing)
    (hq : s.pto.state = .qualify ∨ s.pto.state = .engaging → m = .parked) : ModeKept (setMode m s) := by
  unfold ModeKept ModeLaw QualifyLaw
  rw [setMode_mode, (setMode_interlocked m s).pto]
  exact ⟨hm, hq⟩

/-- The mode after a change of the PTO state keeps the law (R26 to R28). -/
theorem ptoMode_kept {s : State} {prev : PtoState} (hprev : s.ilk.mode = .pump ∨ s.ilk.mode = .roll → prev = .engaged ∨ prev = .releasing)
    (hqual : prev = .qualify ∨ prev = .engaging → s.ilk.mode = .parked)
    (hq : s.pto.state = .qualify → s.ilk.mode = .parked) (he : s.pto.state = .engaging → prev = .qualify) :
    (modeAfter prev s = .pump ∨ modeAfter prev s = .roll → s.pto.state = .engaged ∨ s.pto.state = .releasing) ∧
    (s.pto.state = .qualify ∨ s.pto.state = .engaging → modeAfter prev s = .parked) := by
  have hparked : s.pto.state = .qualify ∨ s.pto.state = .engaging → s.ilk.mode = .parked :=
    fun h => h.elim hq fun h => hqual (.inl (he h))
  unfold modeAfter ptoMode modeJudged
  dsimp only
  cases hs : s.pto.state <;> cases hm : s.ilk.mode <;> cases hb : s.disc[0].active <;> cases hr : s.road.standstill <;> cases prev <;>
    simp_all

theorem publish_kept {s t : State} (h : ModeKept s) (hp : PtoSet s t) : ModeKept (ptoPublish s.pto.state t) := by
  have hpub := ptoPublish_published s.pto.state t
  obtain ⟨h1, h2⟩ := h
  have hi := hp.ilk
  have hk := ptoMode_kept (s := t) (prev := s.pto.state) (by rw [hi]; exact h1) (by rw [hi]; exact h2)
    (by rw [hi]; exact hp.qualify) hp.engaging
  unfold ModeKept ModeLaw QualifyLaw
  rw [hpub.moved.1, hpub.pto]
  exact hk

theorem modeKept_pto : PtoLawful ModeKept where
  calm := fun h hq => h.congr (by rw [hq.ilk]) hq.state
  publishes := publish_kept

theorem settle_kept {s : State} (h : ModeKept s) : ModeKept (settle s) :=
  takeNotices_keeps (fun _ hs => hs)
    (fun _ _ _ _ hs => modeKept_pto.takeNotice
      (fun _ u hu => hu.congr (by rw [(holdBegin_apart u).ilk]) (by rw [(holdBegin_apart u).pto])) hs) _ h

theorem leave_kept {n : Fin 32} {s : State} (h : ModeKept s) : ModeKept (leave n s) := by
  obtain ⟨c, hi⟩ := leaves_ilk n s
  exact h.congr (by rw [hi]) (by rw [leave_pto])

theorem modeKept_lawful : Lawful (fun _ => ModeKept) ModeKept where
  toPtoLawful := modeKept_pto
  opens := id
  closes := settle_kept
  rests := fun h hb => h.congr (by rw [hb.ilk]) hb.state
  widens := fun h _ => h
  passes := fun h hb => h.congr (by rw [hb.ilk]) hb.state
  judges := fun {_ n s} _ h => h.judged (judge_judged n s)
  joins := fun {n s} _ h => by
    obtain ⟨u, hj, he⟩ := join_eq n s
    rw [he]
    exact (h.judged hj).congr rfl rfl
  leaves := fun _ _ h => leave_kept h
  modes := fun _ h => modeJudge_kept h
  entersRoll := fun he _ => setMode_kept (fun _ => .inl he) (by rw [he]; exact fun h => h.elim nofun nofun)
  leavesRoll := fun hm h => setMode_kept (fun _ => h.1 (.inr hm)) fun hq => absurd (h.2 hq) (by rw [hm]; decide)
  silences := fun {s} _ _ h => by
    refine ModeKept.judged (N := fun _ => True) ?_ (alarmJudge_judged _)
    refine List.foldlRecOn _ _ h fun u hu n _ => ?_
    obtain hs | hs := silence_cases n u <;> rw [hs] <;> exact hu
  rewrites := fun {_ n s} _ _ h => by
    obtain ⟨hc, -⟩ | ⟨hc, -⟩ | hc := clearEntry_cases n s <;> rw [hc]
    · exact h
    · exact h
    · exact leave_kept h
  writes := fun _ _ _ h => h
  stops := fun {s t} h hb => settle_kept ((h.congr (by rw [hb.ilk]) hb.state : ModeKept t).judged (judge_judged 0 t))
  resets := fun _ _ => ⟨nofun, fun h => h.elim nofun nofun⟩

end Sys2Proof.Machine
end

section
/-! PROOF. A law of the interlock unit through a step (R1, R172), and the mode law (R27, R28, R58) as its first use. -/

namespace Sys2Proof.Machine

/-! ## The load -/

/-- A line takes its stop-state from the table. -/
def takeStopState (s : State) (n : Fin 10) : State :=
  s.modLine n fun l => { l with stopState := stopStateOf (s.cfg (210 + n.val)) }

/-- The table is filled from the image or the defaults (R171). -/
def tableFilled (s : State) : State := s.modStore fun m => { m with
  live := if imageGood m.image then imageTable m.image else defaultTable, defaultsInUse := !imageGood m.image }

/-- The governor's working copy and the ports take their items. -/
def itemsTaken (s : State) : State := (s.modGov fun g => { g with work := s.shadow }).modLinks fun l =>
  { a := { l.a with rateIndex := s.cfgN 340, node := byte (s.cfgN 341) }
    b := { l.b with rateIndex := s.cfgN 342, node := byte (s.cfgN 343) } }

theorem loadSettings_eq (s : State) : loadSettings s = allLines.foldl takeStopState (itemsTaken (tableFilled s)) := rfl

/-- The load fills the live table and takes from it, of what a lockout entry or a law reads, the stop-states alone (R171). -/
structure Loaded (s t : State) : Prop where
  ctl : t.ctl = s.ctl
  road : t.road = s.road
  analog : t.analog = s.analog
  disc : t.disc = s.disc
  ilk : t.ilk = s.ilk
  pto : t.pto = s.pto
  hot : t.gov.casingHot = s.gov.casingHot
  tank : t.tank = s.tank
  auth : t.auth = s.auth
  hold : t.out.hold = s.out.hold
  live : t.store.live = (tableFilled s).store.live
  defaults : t.store.defaultsInUse = !imageGood s.store.image
  lines : ∀ n : Fin 10, t.out.lines[n] = { s.out.lines[n] with stopState := stopStateOf (t.cfg (210 + n.val)) }

theorem loadSettings_loaded (s : State) : Loaded s (loadSettings s) := by
  have hf : ∀ (u : State) (n : Fin 10), LineOnly n u (takeStopState u n) := fun u n => .of_modLine n _ u
  rw [loadSettings_eq]
  obtain ⟨ho, hh⟩ := foldl_lines_outOnly hf allLines (itemsTaken (tableFilled s))
  have hline : ∀ n : Fin 10, (allLines.foldl takeStopState (itemsTaken (tableFilled s))).out.lines[n] =
      { s.out.lines[n] with stopState := stopStateOf ((itemsTaken (tableFilled s)).cfg (210 + n.val)) } := fun n => by
    obtain ⟨u, hu, -, hun, hl⟩ := foldl_allLines_line hf n (itemsTaken (tableFilled s))
    rw [hl, takeStopState, State.modLine_line_self, hun, State.cfg, hu.store]
    rfl
  generalize allLines.foldl takeStopState (itemsTaken (tableFilled s)) = t at ho hh hline
  rw [OutOnly] at ho
  have hs : t.store = (itemsTaken (tableFilled s)).store := by rw [ho]
  exact
    { ctl := by rw [ho]; rfl
      road := by rw [ho]; rfl
      analog := by rw [ho]; rfl
      disc := by rw [ho]; rfl
      ilk := by rw [ho]; rfl
      pto := by rw [ho]; rfl
      hot := by rw [ho]; rfl
      tank := by rw [ho]; rfl
      auth := by rw [ho]; rfl
      hold := hh
      live := by rw [hs]; rfl
      defaults := by rw [hs]; rfl
      lines := fun n => by rw [hline, State.cfg, State.cfg, hs] }

/-! ## A step -/

/-- Service has begun, and the interlock unit has judged its lines and every entry (R172). -/
def serviceJudged (s : State) : State := judgeAll (interlockLines (s.modCtl fun c => { c with startup := .running }))

/-- The cadence turns ALARM over (R51). -/
def cadenceTurned (s : State) : State :=
  command alarmLine (!s.out.lines[alarmLine].commanded) (s.modIlk fun k => { k with cadence := some (ms 500) })

/-- The waiting commands are read by no law. -/
theorem pending_beside {K : Fin 32 → Prop} (s : State) (l : List Instr) : Beside K s { s with pending := l } :=
  .of_sources rfl rfl rfl rfl rfl fun _ _ => rfl

/-- A command keeps the law, where the cadence's expiry and the load keep it. -/
theorem Lawful.taken {P : (Fin 32 → Prop) → State → Prop} {Q : State → Prop} (L : Lawful P Q) {s t : State} {c : Instr}
    (h : Q s) (hcadence : c = .cadenceTimerExpiry → s.ilk.cadence ≠ none → Q (cadenceTurned s))
    (hload : s.ctl.startup = .loading → P NoEntry (serviceJudged (loadSettings s)))
    (ht : Machine.exec c s = .next t) : Q t := by
  by_cases hc : c = .cadenceTimerExpiry
  · subst hc
    have he : Machine.exec .cadenceTimerExpiry s = execCadenceTimerExpiry s := rfl
    rw [he, execCadenceTimerExpiry] at ht
    split at ht <;> cases ht
    · exact h
    · rename_i hn
      exact hcadence rfl (by simpa using hn)
  by_cases hl : c = .loadComplete
  · subst hl
    have he : Machine.exec .loadComplete s = execLoadComplete s := rfl
    rw [he, execLoadComplete] at ht
    split at ht
    · rw [← Host.Outcome.next.inj ht]
      exact L.begins (hload ‹_›)
    · cases ht
      exact h
  obtain ⟨u, hu, hq⟩ := L.exec hc hl h
  rw [hu] at ht
  cases ht
  exact hq

/-- A step is the passing of a microsecond, or a command taken from the queue. -/
theorem step_next {s t : State} (ht : step s = .next t) : s.pending = [] ∧ t = elapse 1 s ∨
    ∃ c rest, s.pending = c :: rest ∧ exec c { s with pending := rest } = .next t := by
  unfold step at ht
  split at ht
  · cases ht
    exact .inl ⟨‹_›, rfl⟩
  · exact .inr ⟨_, _, ‹_›, ht⟩

/-- A step keeps the law, where idling, the cadence's expiry and the load keep it. -/
theorem Lawful.step {P : (Fin 32 → Prop) → State → Prop} {Q : State → Prop} (L : Lawful P Q) {s t : State} (h : Q s)
    (hidle : Q s → Q (elapse 1 s)) (hcadence : ∀ u, Q u → Q (cadenceTurned u))
    (hload : ∀ l, s.ctl.startup = .loading → P NoEntry (serviceJudged (loadSettings { s with pending := l })))
    (ht : Machine.step s = .next t) : Q t := by
  obtain ⟨-, rfl⟩ | ⟨c, rest, -, hc⟩ := step_next ht
  · exact hidle h
  · have hs : Q { s with pending := rest } := L.rests h (pending_beside s rest)
    exact L.taken hs (fun _ _ => hcadence _ hs) (hload rest) hc

/-! ## The mode law -/

theorem serviceJudged_kept {s : State} (h : ModeKept s) : ModeKept (serviceJudged (loadSettings s)) := by
  have hl := loadSettings_loaded s
  have h1 : ModeKept ((loadSettings s).modCtl fun c => { c with startup := .running }) :=
    h.congr (by rw [← hl.ilk]; rfl) (by rw [← hl.pto]; rfl)
  exact (h1.judged (N := fun _ => True) (interlockLines_judged _)).judged (judgeAll_judged _)

theorem cadenceTurned_kept {s : State} (h : ModeKept s) : ModeKept (cadenceTurned s) := by
  have hc := command_lineOnly alarmLine (!s.out.lines[alarmLine].commanded) (s.modIlk fun k => { k with cadence := some (ms 500) })
  exact h.congr (by rw [cadenceTurned, hc.ilk]; rfl) (by rw [cadenceTurned, hc.pto]; rfl)

/-- Settles O8: the mode law through every operation that moves the mode or the PTO state. -/
theorem stepKeepsMode : Obligations.StepKeepsMode := by
  intro s t h ht
  have hk : ModeKept s := h
  exact modeKept_lawful.step hk (fun h => h.congr rfl rfl) (fun _ => cadenceTurned_kept)
    (fun l _ => serviceJudged_kept (hk.congr rfl rfl)) ht

end Sys2Proof.Machine
end

section
/-! PROOF. The rules that the laws of the interlock unit's lines and of its active list share (R41 to R51): what keeps a
law over a judgment, and over the two ends of a stop hold. -/

namespace Sys2Proof.Machine

/-! ## What the settings and the list say -/

section Live
variable {s t : State} (hl : t.store.live = s.store.live)
include hl

theorem entryActions_of_live (n : Fin 32) : entryActions t n = entryActions s n := by
  simp only [entryActions, State.cfgN, hl]

theorem inForce_of_live (ha : t.ilk.active = s.ilk.active) (act : ActionSet → Bool) : inForce t act = inForce s act := by
  simp only [inForce, ha, entryActions_of_live hl]

theorem sounding_of_live (ha : t.ilk.active = s.ilk.active)
    (he : ∀ n ∈ s.ilk.active, t.ilk.entries[n].silenced = s.ilk.entries[n].silenced) : sounding t = sounding s := by
  unfold sounding
  rw [ha, Bool.eq_iff_iff, List.any_eq_true, List.any_eq_true]
  refine exists_congr fun n => and_congr_right fun hn => ?_
  rw [entryActions_of_live hl, he n hn]

end Live

/-! ## The active list -/

/-- An entry that stands in the active list (R42). -/
def Entry.Listed (e : Entry) : Prop := e.state = .active ∨ e.state = .held

theorem Entry.not_listed {e : Entry} (h : e.state = .clear ∨ e.state = .pending) : ¬ e.Listed := by
  unfold Entry.Listed
  obtain h | h := h <;> rw [h] <;> decide

/-- A record that belongs in the list exactly where another does, silenced as it is. -/
def SameListing (e u : Entry) : Prop := (u.Listed ↔ e.Listed) ∧ (e.Listed → u.silenced = e.silenced)

/-- An entry and its place in the list have moved: its report is queued, and the list is judged (R43, R45). -/
def relisted (n : Fin 32) (e : Entry) (f : List (Fin 32) → List (Fin 32)) (b : ActionSet) (s : State) : State :=
  listChanged b (raise (.lockout n) ((s.modEntry n fun _ => e).modIlk fun k => { k with active := f k.active }))

theorem relisted_ilk (n : Fin 32) (e : Entry) (f : List (Fin 32) → List (Fin 32)) (b : ActionSet) (s : State) :
    ∃ c, (relisted n e f b s).ilk =
      { s.ilk with entries := s.ilk.entries.set n e, active := f s.ilk.active, cadence := c } := by
  obtain ⟨c, hc⟩ := listChanged_ilk b (raise (.lockout n)
    ((s.modEntry n fun _ => e).modIlk fun k => { k with active := f k.active }))
  exact ⟨c, by rw [relisted, hc]; simp⟩

/-- An entry joins at the list's end. -/
def enlisted (n : Fin 32) (s : State) : State := relisted n ⟨.active, none, false⟩ (· ++ [n]) (actionsInForce s) s

/-- An entry leaves the list. -/
def delisted (n : Fin 32) (s : State) : State :=
  relisted n ⟨.clear, none, false⟩ (·.filter fun m => m != n) (actionsInForce s) s

theorem join_enlisted (n : Fin 32) (s : State) : join n s = enlisted n s ∨
    join n s = (enlisted n s).modIlk fun k => { k with notices := k.notices ++ [⟨n, entryActions s n⟩] } := by
  unfold join
  dsimp only
  split
  · exact .inr rfl
  · exact .inl rfl

theorem leave_delisted (n : Fin 32) (s : State) : leave n s = if n = 0 then holdEnd (delisted n s) else delisted n s := rfl

theorem ActiveLaw.congr {s t : State} (h : ActiveLaw s) (ha : t.ilk.active = s.ilk.active)
    (he : ∀ n : Fin 32, t.ilk.entries[n].Listed ↔ s.ilk.entries[n].Listed) : ActiveLaw t :=
  ⟨ha ▸ h.1, fun n => (by rw [ha]; exact h.2 n : n ∈ t.ilk.active ↔ s.ilk.entries[n].Listed).trans (he n).symm⟩

theorem ActiveLaw.of_ilk {s t : State} (h : ActiveLaw s) (hi : t.ilk = s.ilk) : ActiveLaw t :=
  h.congr (by rw [hi]) fun n => by rw [hi]

theorem ActiveLaw.modEntry {s : State} (h : ActiveLaw s) {n : Fin 32} {f : Entry → Entry}
    (hf : (f s.ilk.entries[n]).Listed ↔ s.ilk.entries[n].Listed) : ActiveLaw (s.modEntry n f) := by
  refine h.congr rfl fun m => ?_
  by_cases hm : m = n
  · subst hm
    rw [State.modEntry_entry_self]
    exact hf
  · rw [State.modEntry_entry_other s hm]

theorem ActiveLaw.enlisted {s : State} (h : ActiveLaw s) {n : Fin 32} (hn : ¬ s.ilk.entries[n].Listed) :
    ActiveLaw (enlisted n s) := by
  obtain ⟨c, hi⟩ := relisted_ilk n ⟨.active, none, false⟩ (· ++ [n]) (actionsInForce s) s
  have hmem : n ∉ s.ilk.active := fun hm => hn ((h.2 n).1 hm)
  refine ⟨?_, fun m => ?_⟩ <;> rw [Machine.enlisted, hi]
  · exact List.nodup_append.2 ⟨h.1, List.nodup_singleton n, fun a ha b hb => by
      rintro rfl
      exact hmem ((List.mem_singleton.1 hb) ▸ ha)⟩
  · by_cases hm : m = n
    · subst hm
      simp
    · have := h.2 m
      simpa [hm, Fin.val_ne_of_ne (Ne.symm hm)] using this

theorem ActiveLaw.delisted {s : State} (h : ActiveLaw s) (n : Fin 32) : ActiveLaw (delisted n s) := by
  obtain ⟨c, hi⟩ := relisted_ilk n ⟨.clear, none, false⟩ (·.filter fun m => m != n) (actionsInForce s) s
  refine ⟨?_, fun m => ?_⟩ <;> rw [Machine.delisted, hi]
  · exact h.1.filter _
  · by_cases hm : m = n
    · subst hm
      simp
    · have := h.2 m
      simpa [hm, Fin.val_ne_of_ne (Ne.symm hm)] using this

/-! ## Judgments -/

/-- A law that the interlock unit's moves of an entry and of the list keep, and the rest of the part does not read. -/
structure Listing (P : State → Prop) : Prop where
  calm : ∀ {s t}, P s → Quiet s t → P t
  records : ∀ {s} {n : Fin 32} {f : Entry → Entry}, SameListing s.ilk.entries[n] (f s.ilk.entries[n]) → P s →
    P (s.modEntry n f)
  notifies : ∀ {s} l, P s → P (s.modIlk fun k => { k with notices := l })
  arrives : ∀ {s} {n : Fin 32}, ¬ s.ilk.entries[n].Listed → P s → P (enlisted n s)
  departs : ∀ {s} (n : Fin 32), P s → P (delisted n s)

namespace Listing

variable {P : State → Prop} (L : Listing P)
include L

theorem join {n : Fin 32} {s : State} (hn : ¬ s.ilk.entries[n].Listed) (h : P s) : P (join n s) := by
  have hj := L.arrives hn h
  obtain he | he := join_enlisted n s <;> rw [he]
  · exact hj
  · exact L.notifies _ hj

theorem leave {n : Fin 32} (hn : n ≠ 0) {s : State} (h : P s) : P (leave n s) := by
  rw [leave_delisted, if_neg hn]
  exact L.departs n h

/-- A judgment of an entry keeps the law (R38 to R41). -/
theorem judge (n : Fin 32) {s : State} (h : P s) : P (judge n s) := by
  unfold Machine.judge
  split
  · rename_i hc _
    have hl : ¬ s.ilk.entries[n].Listed := Entry.not_listed (.inl hc)
    split
    · exact L.join hl h
    · exact L.records ⟨iff_of_false (Entry.not_listed (.inr rfl)) hl, fun hk => absurd hk hl⟩ h
  · rename_i hc _
    have hl : ¬ s.ilk.entries[n].Listed := Entry.not_listed (.inr hc)
    exact L.records ⟨iff_of_false (Entry.not_listed (.inl rfl)) hl, fun hk => absurd hk hl⟩ h
  · rename_i hc _
    split
    · exact L.calm (L.records ⟨iff_of_true (.inr rfl) (.inl hc), fun _ => rfl⟩ h) (raise_quiet _ _)
    · exact L.leave (ne_zero_of_not_latches ‹_›) h
  · rename_i hc _
    exact L.calm (L.records ⟨iff_of_true (.inl rfl) (.inr hc), fun _ => rfl⟩ h) (raise_quiet _ _)
  · exact h

theorem judgeAll {s : State} (h : P s) : P (judgeAll s) :=
  List.foldlRecOn _ _ h fun _ hu n _ => L.judge n hu

/-- A write to an item of an entry takes it out of the list (R35). -/
theorem clearEntry {n : Fin 32} (hn : n ≠ 0) {s : State} (h : P s) : P (clearEntry n s) := by
  obtain ⟨hc, -⟩ | ⟨hc, hs⟩ | hc := clearEntry_cases n s <;> rw [hc]
  · exact h
  · have hl : ¬ s.ilk.entries[n].Listed := Entry.not_listed (.inr hs)
    exact L.records ⟨iff_of_false (Entry.not_listed (.inl rfl)) hl, fun hk => absurd hk hl⟩ h
  · exact L.leave hn h

end Listing

/-! ## The two ends of a stop hold -/

/-- The stop hold has begun, or has ended: of what the laws read, the output unit's hold alone has moved. -/
structure HoldSet (b : Bool) (s t : State) : Prop where
  reacted : Reacted s t
  ilk : t.ilk = s.ilk
  state : t.pto.state = s.pto.state
  slip : t.pto.slip = s.pto.slip
  hold : t.out.hold = b
  hot : t.gov.casingHot = s.gov.casingHot
  commands : ∀ n : Fin 10, Watched n → t.out.lines[n].commanded = s.out.lines[n].commanded
  faults : SameFaults s t
  enabled : Enabled s → Enabled t

theorem HoldSet.quiet {b : Bool} {s t u : State} (h : HoldSet b s t) (k : Quiet t u) : HoldSet b s u where
  reacted := h.reacted.trans k.reacted
  ilk := k.ilk.trans h.ilk
  state := k.state.trans h.state
  slip := k.slip.trans h.slip
  hold := k.hold.trans h.hold
  hot := k.hot.trans h.hot
  commands := fun n hn => (k.commands n hn).trans (h.commands n hn)
  faults := h.faults.trans k.faults
  enabled := fun he => k.enabled (h.enabled he)

theorem HoldSet.sources {b : Bool} {s t : State} (h : HoldSet b s t) {n : Fin 32} (hg : ¬ Gauged n) :
    sourcePresent t n = sourcePresent s n :=
  sourcePresent_congr h.reacted hg (fun _ => h.state) (fun _ => h.slip)
    (fun _ => h.commands _ (.inr (.inr (.inl rfl)))) (fun _ => h.hot) fun _ => h.faults

theorem holdLines_holdSet (s : State) : HoldSet true s (holdLines s) := by
  have ha := holdLines_apart s
  have hg : (holdLines s).gov = s.gov := by
    unfold holdLines
    dsimp only
    rw [(foldl_lines_outOnly (fun s n => drive_lineOnly n s) _ _).1.gov]
    exact (foldl_lines_outOnly latchLine_lineOnly _ s).1.gov
  exact
    { reacted := holdLines_reacted s
      ilk := ha.ilk
      state := by rw [ha.pto]
      slip := by rw [ha.pto]
      hold := (holdLines_line 0 s).1.1
      hot := by rw [hg]
      commands := fun n _ => (holdLines_line n s).2.2.2
      faults := holdLines_sameFaults s
      enabled := fun h => h.holdLines }

theorem setDuty_quiet (s : State) : Quiet s (setDuty s) := by
  unfold setDuty
  exact modGov_quiet rfl

theorem holdBegin_holdSet (s : State) : HoldSet true s (holdBegin s) := by
  have h := (holdLines_holdSet s).quiet (setDuty_quiet _)
  unfold holdBegin
  dsimp only
  exact h.quiet ((primerEnd_quiet _ _).trans ((discardWindow_quiet _).trans (fillJudge_quiet _)))

theorem releaseLines_holdSet (s : State) : HoldSet false s (releaseLines s) := by
  have hd : ∀ (u : State) (n : Fin 10), LineOnly n u (u.modLine n fun l => { l with kept := none }) :=
    fun u n => .of_modLine n _ u
  have hq : Quiet ((allLines.foldl (fun u n => u.modLine n fun l => { l with kept := none }) s).modOut fun o => { o with hold := false })
      (releaseLines s) :=
    (Quiet.foldl (fun u n => drive_quiet n u) _ _).trans (Quiet.foldl (fun u n => beginRetry_quiet n u) _ _)
  obtain ⟨ho, -⟩ := foldl_lines_outOnly hd allLines s
  have ha := releaseLines_apart s
  exact
    { reacted := releaseLines_reacted s
      ilk := ha.ilk
      state := by rw [ha.pto]
      slip := by rw [ha.pto]
      hold := hq.hold
      hot := hq.hot.trans (congrArg Governor.casingHot ho.gov :)
      commands := fun n hn => by
        obtain ⟨u, -, -, hu, hl⟩ := foldl_allLines_line hd n s
        rw [State.modLine_line_self, hu] at hl
        exact (hq.commands n hn).trans (congrArg OutputLine.commanded hl :)
      faults := releaseLines_sameFaults s
      enabled := fun h => h.releaseLines }

theorem holdEnd_holdSet (s : State) : HoldSet false s (holdEnd s) := by
  have h : HoldSet false s (fillJudge (setDuty (releaseLines s))) :=
    ((releaseLines_holdSet s).quiet (setDuty_quiet _)).quiet (fillJudge_quiet _)
  unfold holdEnd
  dsimp only
  split
  · exact h.quiet (freshWindow_quiet _ _)
  · exact h

/-! ## Publications and changes of mode -/

/-- A law that judgments and changes of mode keep, while some sources wait for their entries' judgment. -/
structure Judging (P : (Fin 32 → Prop) → State → Prop) : Prop where
  widens : ∀ {K L : Fin 32 → Prop} {s}, P K s → (∀ n, K n → L n) → P L s
  untouched : ∀ {K : Fin 32 → Prop} {s t}, P K s → Untouched K s t → P K t
  judges : ∀ {K : Fin 32 → Prop} {n s}, n ≠ 0 → P (fun m => K m ∨ m = n) s → P K (judge n s)
  moves : ∀ {K : Fin 32 → Prop} {s} (m : Mode), ¬ K 0 → P K s → P K (setMode m s)

namespace Judging

variable {P : (Fin 32 → Prop) → State → Prop} (L : Judging P)
include L

theorem passes {K : Fin 32 → Prop} {s t : State} (h : P K s) (hb : Beside K s t) : P K t := L.untouched h hb.toUntouched

theorem calm {K : Fin 32 → Prop} {s t : State} (h : P K s) (hq : Quiet s t) : P K t := L.passes h hq.beside

theorem moveMode {K : Fin 32 → Prop} (m : Mode) (hK : ¬ K 0) {s : State} (h : P K s) : P K (moveMode m s) := by
  unfold Machine.moveMode
  split
  · exact h
  · exact L.moves m hK h

theorem modes {K : Fin 32 → Prop} (hK : ¬ K 0) {s : State} (h : P K s) : P K (modeJudge s) := by
  rw [modeJudge_eq]
  exact L.moveMode _ hK h

/-- The interlock unit's answer to a publication of the PTO state judges entries 1, 2 and 3 (R35). -/
theorem answers (prev : PtoState) {s : State} (h : P (fun n => n = 1 ∨ n = 2 ∨ n = 3) s) : P NoEntry (interlockOnPto prev s) := by
  have h0 : P (fun n => n = 1 ∨ n = 2 ∨ n = 3) (if s.pto.state = prev then s else Machine.moveMode (ptoMode s) s) := by
    split
    · exact h
    · exact L.moveMode _ (by decide) h
  rw [interlockOnPto_eq]
  refine L.judges (by decide) (L.judges (by decide) (L.judges (by decide) (L.widens h0 fun n hn => ?_)))
  unfold NoEntry
  tauto

theorem pto : PtoLawful (P NoEntry) where
  calm := L.calm
  publishes := fun h hp => by
    have h1 := L.untouched (L.widens h fun _ hn => absurd hn id) hp.toUntouched
    exact L.calm (L.answers _ (L.calm h1 (raise_quiet _ _))) (ptoPublish_quiet _ _)

end Judging

end Sys2Proof.Machine
end

section
/-! PROOF. DRIVE_EN and THR_LIMIT as their rules have them (R49, R50, R133). -/

namespace Sys2Proof.Machine

/-- DRIVE_EN and THR_LIMIT are commanded by their rules (R49, R50), with what that rests on. -/
structure DriveKept (s : State) : Prop where
  active : ActiveLaw s
  enabled : Enabled s
  drive : DriveLaw s
  limit : LimitLaw s

/-- The mode, the actions in force and the two commands stand. -/
theorem DriveKept.congr {s t : State} (h : DriveKept s) (ha : ActiveLaw t) (he : Enabled t)
    (hrun : t.ctl.startup = .running → s.ctl.startup = .running) (hm : t.ilk.mode = s.ilk.mode)
    (hf : ∀ act, inForce t act = inForce s act)
    (hc : ∀ n : Fin 10, n = driveEn ∨ n = thrLimit → t.out.lines[n].commanded = s.out.lines[n].commanded) : DriveKept t where
  active := ha
  enabled := he
  drive := fun hr => by rw [hc _ (.inl rfl), hm, hf]; exact h.drive (hrun hr)
  limit := by rw [LimitLaw, hc _ (.inr rfl), hf]; exact h.limit

/-- An operation that leaves the interlock unit and the settings. -/
theorem DriveKept.stand {s t : State} (h : DriveKept s) (hi : t.ilk = s.ilk) (hl : t.store.live = s.store.live)
    (he : Enabled s → Enabled t) (hrun : t.ctl.startup = .running → s.ctl.startup = .running)
    (hc : ∀ n : Fin 10, n = driveEn ∨ n = thrLimit → t.out.lines[n].commanded = s.out.lines[n].commanded) : DriveKept t :=
  h.congr (h.active.of_ilk hi) (he h.enabled) hrun (by rw [hi]) (inForce_of_live hl (by rw [hi])) hc

theorem DriveKept.untouched {K : Fin 32 → Prop} {s t : State} (h : DriveKept s) (hu : Untouched K s t) : DriveKept t :=
  h.stand hu.ilk hu.live hu.enabled hu.running.1 fun n hn => hu.commands n (hn.imp_right .inl)

theorem DriveKept.calm {s t : State} (h : DriveKept s) (hq : Quiet s t) : DriveKept t :=
  h.untouched (hq.beside (K := NoEntry)).toUntouched

theorem DriveKept.holdSet {b : Bool} {s t : State} (h : DriveKept s) (hs : HoldSet b s t) : DriveKept t :=
  h.stand hs.ilk (by rw [hs.reacted.store]) hs.enabled (by rw [hs.reacted.ctl]; exact id) fun n hn =>
    hs.commands n (hn.imp_right .inl)

/-- The interlock unit's own record moves, but for the mode and the list. -/
theorem DriveKept.modIlk {f : Interlock → Interlock} {s : State} (h : DriveKept s) (ha : ActiveLaw (s.modIlk f))
    (hm : (f s.ilk).mode = s.ilk.mode) (hl : (f s.ilk).active = s.ilk.active) : DriveKept (s.modIlk f) :=
  h.congr ha (h.enabled.of_line rfl rfl rfl) id hm (inForce_of_live rfl hl) fun _ _ => rfl

/-! ## The lines are recomputed -/

/-- The list and the enabling: what the recomputation of the two lines rests on. -/
def DriveReady (s : State) : Prop := ActiveLaw s ∧ Enabled s

/-- The recomputation commands DRIVE_EN by its rule (R49). -/
theorem interlockLines_drive (s : State) : (interlockLines s).out.lines[driveEn].commanded = permit s := by
  unfold interlockLines
  dsimp only
  rw [command_other (by decide), command_commanded]
  rfl

/-- The recomputation commands the two lines by their rules. -/
theorem DriveReady.interlockLines {s : State} (h : DriveReady s) : DriveKept (interlockLines s) := by
  obtain ⟨ha, he⟩ := h
  have hi : (Machine.interlockLines s).ilk = s.ilk := interlockLines_ilk s
  have hs := (interlockLines_reacted s).store
  have hf := inForce_of_live (s := s) (t := Machine.interlockLines s) (by rw [hs]) (by rw [hi])
  have hlimit : (Machine.interlockLines s).out.lines[thrLimit].commanded = inForce s (·.limitRoad) := by
    unfold Machine.interlockLines
    dsimp only
    rw [command_commanded, inForce_of_live (congrArg Store.live (command_reacted driveEn _ s).store :) (by rw [command_ilk])]
  exact
    { active := ha.of_ilk hi
      enabled := (he.command _ _).command _ _
      drive := fun _ => by rw [interlockLines_drive, hi, hf]; rfl
      limit := by rw [LimitLaw, hlimit, hf] }

theorem DriveKept.command {n : Fin 10} (hn : n ≠ driveEn ∧ n ≠ thrLimit) (on : Bool) {s : State} (h : DriveKept s) :
    DriveKept (command n on s) := by
  have hl := command_lineOnly n on s
  refine h.stand hl.ilk (by rw [(Reacted.of_lineOnly hl).store]) (fun he => he.command n on)
    (by rw [(Reacted.of_lineOnly hl).ctl]; exact id) fun m hm => ?_
  rw [hl.other]
  rintro rfl
  exact hm.elim hn.1 hn.2

theorem DriveKept.alarmJudge {s : State} (h : DriveKept s) : DriveKept (alarmJudge s) := by
  have hk : ∀ c, DriveKept (s.modIlk fun k => { k with cadence := c }) := fun c =>
    h.modIlk (h.active.congr rfl fun _ => .rfl) rfl rfl
  unfold Machine.alarmJudge
  split
  · exact (hk _).command (by decide) _
  · exact (hk _).command (by decide) _
  · exact h

theorem DriveReady.listChanged {s : State} (h : DriveReady s) (b : ActionSet) : DriveKept (listChanged b s) := by
  have hk := h.interlockLines.alarmJudge
  unfold Machine.listChanged
  dsimp only
  split
  · exact hk
  · exact hk.calm (rejudgeBounds_idled _).quiet

/-! ## Judgments and changes of mode -/

theorem DriveKept.ready {s : State} (h : DriveKept s) : DriveReady s := ⟨h.active, h.enabled⟩

/-- An entry moves with its place in the list, and the lines are recomputed. -/
theorem DriveReady.relisted {n : Fin 32} {e : Entry} {f : List (Fin 32) → List (Fin 32)} {b : ActionSet} {s : State}
    (h : DriveReady s) (ha : ActiveLaw (relisted n e f b s)) : DriveKept (relisted n e f b s) := by
  have hr : DriveReady (raise (.lockout n) ((s.modEntry n fun _ => e).modIlk fun k => { k with active := f k.active })) := by
    refine ⟨?_, h.2.of_line rfl rfl rfl⟩
    obtain ⟨c, hc⟩ := relisted_ilk n e f b s
    exact ha.congr (by rw [hc]; rfl) fun m => by rw [hc]; exact .rfl
  exact hr.listChanged b

theorem DriveKept.modEntry {s : State} (h : DriveKept s) {n : Fin 32} {f : Entry → Entry}
    (hf : (f s.ilk.entries[n]).Listed ↔ s.ilk.entries[n].Listed) : DriveKept (s.modEntry n f) :=
  h.modIlk (h.active.modEntry hf) rfl rfl

theorem driveReady_listing : Listing DriveReady where
  calm := fun h hq => ⟨h.1.of_ilk hq.ilk, hq.enabled h.2⟩
  records := fun hf h => ⟨h.1.modEntry hf.1, h.2.of_line rfl rfl rfl⟩
  notifies := fun _ h => ⟨h.1.congr rfl fun _ => .rfl, h.2.of_line rfl rfl rfl⟩
  arrives := fun hn h => (h.relisted (h.1.enlisted hn)).ready
  departs := fun n h => (h.relisted (h.1.delisted n)).ready

theorem driveKept_listing : Listing DriveKept where
  calm := DriveKept.calm
  records := fun hf h => h.modEntry hf.1
  notifies := fun _ h => h.modIlk (h.active.congr rfl fun _ => .rfl) rfl rfl
  arrives := fun hn h => h.ready.relisted (h.active.enlisted hn)
  departs := fun n h => h.ready.relisted (h.active.delisted n)

theorem DriveReady.setMode {s : State} (h : DriveReady s) (m : Mode) : DriveKept (setMode m s) := by
  have h0 : DriveReady (modeBegun m s) :=
    have hi := modeBegun_ilk m s
    ⟨h.1.congr (by rw [hi]) fun _ => by rw [hi], by unfold modeBegun; split <;> exact h.2.of_line rfl rfl rfl⟩
  have h1 := (driveReady_listing.judgeAll h0).interlockLines
  rw [setMode_eq]
  exact (h1.calm (raise_quiet _ _)).calm ((rejudgeBounds_idled _).quiet.trans (pumpReadyJudge_quiet _))

theorem driveKept_judging : Judging (fun _ => DriveKept) where
  widens := fun h _ => h
  untouched := DriveKept.untouched
  judges := fun _ h => driveKept_listing.judge _ h
  moves := fun m _ h => h.ready.setMode m

theorem DriveKept.settle {s : State} (h : DriveKept s) : DriveKept (settle s) :=
  takeNotices_keeps (fun _ hs => driveKept_listing.notifies _ hs)
    (fun _ _ _ _ hs => driveKept_judging.pto.takeNotice (fun _ _ hu => hu.holdSet (holdBegin_holdSet _))
      (driveKept_listing.notifies _ hs)) _ h

theorem DriveKept.leave (n : Fin 32) {s : State} (h : DriveKept s) : DriveKept (leave n s) := by
  have hd := driveKept_listing.departs n h
  rw [leave_delisted]
  split
  · exact hd.holdSet (holdEnd_holdSet _)
  · exact hd

/-! ## Writes -/

/-- No stop-state that DRIVE_EN permits is ON (R131). -/
theorem stopStateOf_ne_on {r : ItemSpec} (hr : itemSpec 211 = some r) {v : Int} (hv : r.domain.contains v = true) :
    stopStateOf v ≠ .on := by
  have hspec : itemSpec 211 = some (parkedChoice [0, 2] 2) := rfl
  cases hspec.symm.trans hr
  simp only [parkedChoice, Domain.contains, List.contains_cons, List.contains_nil, Bool.or_false, Bool.or_eq_true,
    beq_iff_eq] at hv
  obtain rfl | rfl := hv <;> decide

/-- A table in range stops DRIVE_EN off or keeps it (R131, R167). -/
theorem stopSetting_ne_on {l : List (Nat × Half)} (h : tableInRange l = true) :
    stopStateOf (itemValue 211 (tableValue l 211)) ≠ .on := by
  have hspec : itemSpec 211 = some (parkedChoice [0, 2] 2) := rfl
  refine stopStateOf_ne_on hspec ?_
  unfold tableValue
  by_cases hk : 211 ∈ l.map (·.1)
  · obtain ⟨v, hv, hm⟩ := exists_lookup_of_mem_keys hk
    have hin := List.all_eq_true.1 h _ hm
    simp only [hspec] at hin
    rw [hv]
    exact hin
  · have hn : l.lookup 211 = none := List.lookup_eq_none_iff.2 fun e he =>
      bne_iff_ne.2 fun h => hk (List.mem_map.2 ⟨e, he, h.symm⟩)
    rw [hn]
    decide

/-- A write of an item that its table permits keeps DRIVE_EN's stop-state setting. -/
theorem stopSetting_tableSet {l : List (Nat × Half)} (h : stopStateOf (itemValue 211 (tableValue l 211)) ≠ .on) {i : Nat}
    {v : Half} (hv : i = 211 → stopStateOf (itemValue 211 v) ≠ .on) :
    stopStateOf (itemValue 211 (tableValue (tableSet l i v) 211)) ≠ .on := by
  by_cases hi : 211 = i
  · by_cases hk : i ∈ l.map (·.1)
    · rw [hi, tableValue_tableSet_self hk, ← hi]
      exact hv hi.symm
    · have hn : l.lookup i = none := List.lookup_eq_none_iff.2 fun e he =>
        bne_iff_ne.2 fun h => hk (List.mem_map.2 ⟨e, he, h.symm⟩)
      unfold tableValue
      rw [lookup_tableSet, if_pos hi, hi, hn]
      rw [hi] at h
      simpa [tableValue, hn] using h
  · rwa [tableValue_tableSet_other hi]

/-- A table without an entry's items gives what it gave for every other entry. -/
theorem entryActions_tableSet {i : Nat} {n : Fin 32} (hn : entryOfItem i ≠ some n) (v : Half) (s : State) :
    entryActions (s.modStore fun m => { m with live := tableSet m.live i v }) n = entryActions s n := by
  by_cases h16 : n.val < 16
  · unfold entryActions
    split <;> simp_all
  · have hi : entryItem n 2 ≠ i := by
      rintro rfl
      unfold entryOfItem entryItem at hn
      rw [dif_pos (by omega)] at hn
      exact hn (congrArg some (Fin.ext (by simp; omega)))
    have hc : (s.modStore fun m => { m with live := tableSet m.live i v }).cfgN (entryItem n 2) = s.cfgN (entryItem n 2) := by
      simp only [State.cfgN, State.modStore_store, tableValue_tableSet_other hi]
    unfold entryActions
    rw [hc]

theorem Enabled.write {s : State} (h : Enabled s) {i : Nat} {v : Half} (hv : i = 211 → stopStateOf (itemValue 211 v) ≠ .on) :
    Enabled (s.modStore fun m => { m with live := tableSet m.live i v }) :=
  { setting := stopSetting_tableSet h.setting hv, stop := h.stop, kept := h.kept, held := h.held, gated := h.gated }

/-- A write that no listed entry reads. -/
theorem DriveKept.write {s : State} (h : DriveKept s) {i : Nat} {v : Half}
    (hv : i = 211 → stopStateOf (itemValue 211 v) ≠ .on) (hl : ∀ n ∈ s.ilk.active, entryOfItem i ≠ some n) :
    DriveKept (s.modStore fun m => { m with live := tableSet m.live i v }) := by
  refine h.congr h.active (h.enabled.write hv) id rfl (fun act => ?_) fun _ _ => rfl
  unfold inForce
  rw [Bool.eq_iff_iff, List.any_eq_true, List.any_eq_true]
  refine exists_congr fun n => and_congr_right fun hn => ?_
  rw [entryActions_tableSet (hl n hn)]

/-- An entry that a write of its item has cleared is off the list (R35, R42). -/
theorem clearEntry_not_listed (n : Fin 32) {s : State} (h : ActiveLaw (clearEntry n s)) : n ∉ (clearEntry n s).ilk.active := by
  have hc : (clearEntry n s).ilk.entries[n].state = .clear := by
    obtain ⟨hc, hs⟩ | ⟨hc, -⟩ | hc := clearEntry_cases n s <;> rw [hc]
    · exact hs
    · rw [State.modEntry_entry_self]
    · rw [leave_entry_self]
  exact fun hn => Entry.not_listed (.inl hc) ((h.2 n).1 hn)

/-- The entry of a configurable item is none of the fixed ones (R166). -/
theorem entryOfItem_some {i : Nat} {n : Fin 32} (h : entryOfItem i = some n) : n ≠ 0 ∧ 256 ≤ i := by
  unfold entryOfItem at h
  split at h
  · rename_i hb
    rw [← Option.some.inj h]
    refine ⟨fun h0 => ?_, hb.1⟩
    have := congrArg Fin.val h0
    simp at this
  · cases h

/-! ## Out of service -/

/-- The default table holds every item at its default. -/
theorem tableValue_defaultTable (i : Nat) : tableValue defaultTable i = itemDefault i := by
  have h : ∀ l : List Nat, ((l.map fun i => (i, itemDefault i)).lookup i).getD (itemDefault i) = itemDefault i := by
    intro l
    induction l with
    | nil => rfl
    | cons k l ih =>
      rw [List.map_cons, List.lookup_cons]
      split
      · rename_i hk
        rw [Option.getD_some, beq_iff_eq.1 hk]
      · exact ih
  rw [← h itemNumbers, tableValue, defaultTable]
  cases (itemNumbers.map fun i => (i, itemDefault i)).lookup i <;> rfl

/-- In full reset nothing is listed, and DRIVE_EN is off (R172). -/
theorem driveKept_of_held {s : State} (h : HeldLaw s) (hs : s.ctl.startup ≠ .running) : DriveKept s := by
  obtain ⟨-, -, -, -, hi, -, -, -, hh, hl, -, -, hst⟩ := h hs
  have hd := hl driveEn
  have ht := hl thrLimit
  have hlive : s.store.live = [] := by rw [hst]; rfl
  have hempty : s.ilk.active = [] := by rw [hi]; rfl
  exact
    { active := ⟨by rw [hempty]; exact List.nodup_nil, fun n => by rw [hi]; simp [State.reset, Entry.reset]⟩
      enabled :=
        { setting := by rw [State.cfg, hlive]; exact stopSetting_ne_on rfl
          stop := fun hold => by rw [hh] at hold; cases hold
          kept := fun hold => by rw [hh] at hold; cases hold
          held := fun hold => by rw [hh] at hold; cases hold
          gated := by rw [hd]; exact nofun }
      drive := fun hr => absurd hr hs
      limit := by rw [LimitLaw, ht, inForce, hempty]; rfl }

/-- A part that has loaded judges its lines (R172). -/
theorem driveReady_loaded {s : State} (h : HeldLaw s) (hs : s.ctl.startup ≠ .running) :
    DriveReady ((loadSettings s).modCtl fun c => { c with startup := .running }) := by
  have hk := driveKept_of_held h hs
  obtain ⟨-, -, -, -, -, -, -, -, hh, -⟩ := h hs
  have hl := loadSettings_loaded s
  have hhold : (loadSettings s).out.hold = false := hl.hold.trans hh
  have hsetting : stopStateOf ((loadSettings s).cfg 211) ≠ .on := by
    rw [State.cfg, hl.live]
    by_cases hg : imageGood s.store.image = true
    · have hin : tableInRange (imageTable s.store.image) = true := by
        simp only [imageGood, Bool.and_eq_true] at hg
        exact hg.1.2
      rw [tableFilled, State.modStore_store, hg]
      exact stopSetting_ne_on hin
    · rw [tableFilled, State.modStore_store, if_neg hg, tableValue_defaultTable]
      decide
  exact ⟨hk.active.of_ilk hl.ilk,
    { setting := hsetting
      stop := fun hold => by rw [State.modCtl_out, hhold] at hold; cases hold
      kept := fun hold => by rw [State.modCtl_out, hhold] at hold; cases hold
      held := fun hold => by rw [State.modCtl_out, hhold] at hold; cases hold
      gated := by rw [State.modCtl_out, hl.lines]; exact hk.enabled.gated }⟩

/-! ## The law -/

theorem driveKept_lawful : Lawful (fun _ => DriveKept) DriveKept where
  toPtoLawful := driveKept_judging.pto
  opens := id
  closes := DriveKept.settle
  rests := driveKept_judging.passes (K := NoEntry)
  widens := fun h _ => h
  passes := driveKept_judging.passes
  judges := fun {K _ _} hn h => driveKept_judging.judges (K := K) hn h
  joins := fun hp h => driveKept_listing.join (Entry.not_listed (.inr hp)) h
  leaves := fun {n _} _ _ h => h.leave n
  modes := fun hK h => driveKept_judging.modes hK h
  entersRoll := fun _ h => h.ready.setMode _
  leavesRoll := fun _ h => h.ready.setMode _
  silences := fun {s} _ _ h => by
    refine DriveKept.alarmJudge (List.foldlRecOn _ _ h fun u hu n _ => ?_)
    obtain hs | hs := silence_cases n u <;> rw [hs]
    · exact hu
    · have he : DriveKept (u.modEntry n fun e => { e with silenced := true }) := hu.modEntry .rfl
      exact he.calm (raise_quiet _ _)
  rewrites := fun {i n s} v hi h => by
    obtain ⟨hn, h256⟩ := entryOfItem_some hi
    have hc := driveKept_listing.clearEntry hn h
    refine hc.write (by omega) fun m hm => ?_
    rw [hi]
    intro he
    cases Option.some.inj he
    exact clearEntry_not_listed n hc.active hm
  writes := fun {i r s v} hi hr hv h => h.write (by rintro rfl; exact stopStateOf_ne_on hr hv) (by simp [hi])
  stops := fun {s t} h hb => (driveKept_listing.judge 0 (driveKept_judging.passes (K := (· = 0)) h hb)).settle
  resets := fun {s f} hf _ => driveKept_of_held (fullReset_held s f) (by
    rw [State.modCtl_ctl, hf]
    exact nofun)

/-! ## Every step -/

theorem driveKept_of_laws {s : State} (hset : SettingsLaw s) (ha : ActiveLaw s) (hline : LineLaw s) (hstop : StopLaw s)
    (hdrive : DriveLaw s) (henable : EnableLaw s) (hlimit : LimitLaw s) : DriveKept s := by
  obtain ⟨heff, hkept⟩ := hline driveEn
  have hin : tableInRange s.store.live = true := by
    obtain hl | ⟨-, hl, -⟩ := hset
    · rw [hl]; rfl
    · exact hl
  exact
    { active := ha
      enabled :=
        { setting := stopSetting_ne_on hin
          stop := fun _ hon => by have := hstop driveEn; rw [hon] at this; exact absurd this (by decide)
          kept := fun hh hk => hkept.2 ⟨hh, hk⟩
          held := fun hh hk => henable (by
            have hkeep := (hkept.1 (by rw [hk]; rfl)).2
            rw [heff, hh, holdLevel, hkeep, hk]
            rfl)
          gated := henable }
      drive := hdrive
      limit := hlimit }

theorem DriveKept.elapse {s : State} (h : DriveKept s) (n : Micros) : DriveKept (elapse n s) := by
  have hl : ∀ m : Fin 10, SameLevels s.out.lines[m] (Machine.elapse n s).out.lines[m] := fun m => by simp [Machine.elapse, SameLevels]
  obtain ⟨hcmd, heff, hstop, hkept⟩ := hl driveEn
  have he : Enabled (Machine.elapse n s) :=
    have hsafe : HoldSafe (Machine.elapse n s) := h.enabled.toHoldSafe.congr rfl rfl hstop hkept hcmd
    { hsafe with gated := by rw [heff, hcmd]; exact h.enabled.gated }
  refine h.congr (h.active.congr rfl fun m => ?_) he id rfl (inForce_of_live rfl rfl) fun m _ => (hl m).1
  simp [Machine.elapse, Entry.Listed]

theorem DriveKept.cadenceTurned {s : State} (h : DriveKept s) : DriveKept (cadenceTurned s) := by
  unfold Machine.cadenceTurned
  have hk : DriveKept (s.modIlk fun k => { k with cadence := some (ms 500) }) :=
    h.modIlk (h.active.congr rfl fun _ => .rfl) rfl rfl
  exact hk.command (by decide) _

/-- Settles O13: the recomputation of R43 commands both lines wherever the list or the mode moves, and no operation on
the lines leaves DRIVE_EN effective where it is not commanded. -/
theorem stepKeepsDriveEnableAndLimit : Obligations.StepKeepsDriveEnableAndLimit := by
  intro s t ⟨hset, ha, hline, hstop, hheld, hdrive, henable, hlimit⟩ ht
  have hk : DriveKept t := driveKept_lawful.step (driveKept_of_laws hset ha hline hstop hdrive henable hlimit)
    (fun h => h.elapse 1) (fun _ hu => hu.cadenceTurned)
    (fun l hl => driveKept_listing.judgeAll (driveReady_loaded (s := { s with pending := l }) hheld (by
      have : s.ctl.startup = .loading := hl
      rw [this]
      exact nofun)).interlockLines) ht
  exact ⟨hk.drive, hk.enabled.gated, hk.limit⟩

end Sys2Proof.Machine
end

section
/-! PROOF. The alarm sounds exactly while a listed entry asks for it, and ALARM is as its cadence has it (R51). -/

namespace Sys2Proof.Machine

/-- The cadence timer and ALARM against what they were, `c` and `on`, when the command began: a silent horn stays
commanded off, and a cadence that runs has begun in the command or stands as it was (R51). -/
structure AlarmReady (c : Timer) (on : Bool) (s : State) : Prop where
  active : ActiveLaw s
  horn : (c = none → on = false) → HornLaw s
  begun : s.ilk.cadence ≠ none → s.ilk.cadence = some 500000 ∧ s.out.lines[alarmLine].commanded = true ∨
    c ≠ none ∧ s.ilk.cadence = c ∧ s.out.lines[alarmLine].commanded = on

/-- And the cadence runs exactly while the alarm sounds. -/
structure AlarmKept (c : Timer) (on : Bool) (s : State) : Prop extends AlarmReady c on s where
  law : AlarmLaw s

section Law
variable {c : Timer} {on : Bool} {s t : State}

theorem AlarmReady.congr (h : AlarmReady c on s) (ha : ActiveLaw t) (hc : t.ilk.cadence = s.ilk.cadence)
    (hl : t.out.lines[alarmLine].commanded = s.out.lines[alarmLine].commanded) : AlarmReady c on t where
  active := ha
  horn := fun hon hn => by rw [hl]; exact h.horn hon (hc ▸ hn)
  begun := by rw [hc, hl]; exact h.begun

theorem AlarmKept.congr (h : AlarmKept c on s) (ha : ActiveLaw t) (hc : t.ilk.cadence = s.ilk.cadence)
    (hl : t.out.lines[alarmLine].commanded = s.out.lines[alarmLine].commanded) (hs : sounding t = sounding s) :
    AlarmKept c on t :=
  { h.toAlarmReady.congr ha hc hl with law := by rw [AlarmLaw, hc, hs]; exact h.law }

/-- An operation that leaves the interlock unit and the settings. -/
theorem AlarmKept.stand (h : AlarmKept c on s) (hi : t.ilk = s.ilk) (hl : t.store.live = s.store.live)
    (hc : t.out.lines[alarmLine].commanded = s.out.lines[alarmLine].commanded) : AlarmKept c on t :=
  h.congr (h.active.of_ilk hi) (by rw [hi]) hc (sounding_of_live hl (by rw [hi]) fun n _ => by rw [hi])

theorem AlarmKept.untouched {K : Fin 32 → Prop} (h : AlarmKept c on s) (hu : Untouched K s t) : AlarmKept c on t :=
  h.stand hu.ilk hu.live (hu.commands _ (.inr (.inr rfl)))

theorem AlarmKept.calm (h : AlarmKept c on s) (hq : Quiet s t) : AlarmKept c on t :=
  h.untouched (hq.beside (K := NoEntry)).toUntouched

theorem AlarmKept.holdSet {b : Bool} (h : AlarmKept c on s) (hs : HoldSet b s t) : AlarmKept c on t :=
  h.stand hs.ilk (by rw [hs.reacted.store]) (hs.commands _ (.inr (.inr (.inr rfl))))

theorem AlarmReady.raise (h : AlarmReady c on s) (k : ReportKey) : AlarmReady c on (raise k s) := h.congr h.active rfl rfl

/-- Another line is commanded. -/
theorem AlarmKept.command {n : Fin 10} (hn : alarmLine ≠ n) (b : Bool) (h : AlarmKept c on s) : AlarmKept c on (command n b s) := by
  have hl := command_lineOnly n b s
  exact h.stand hl.ilk (by rw [(Reacted.of_lineOnly hl).store]) (by rw [hl.other hn])

theorem AlarmReady.command {n : Fin 10} (hn : alarmLine ≠ n) (b : Bool) (h : AlarmReady c on s) :
    AlarmReady c on (command n b s) := by
  have hl := command_lineOnly n b s
  exact h.congr (h.active.of_ilk hl.ilk) (by rw [hl.ilk]) (by rw [hl.other hn])

theorem AlarmReady.interlockLines (h : AlarmReady c on s) : AlarmReady c on (interlockLines s) :=
  (h.command (by decide) _).command (by decide) _

theorem AlarmKept.interlockLines (h : AlarmKept c on s) : AlarmKept c on (interlockLines s) :=
  (h.command (by decide) _).command (by decide) _

/-- The judgment of the sounding condition begins the cadence, ends it, or leaves it (R51). -/
theorem AlarmReady.alarmJudge (h : AlarmReady c on s) : AlarmKept c on (alarmJudge s) := by
  have hk : ∀ (x : Timer) (b : Bool), let u := Machine.command alarmLine b (s.modIlk fun k => { k with cadence := x })
      ActiveLaw u ∧ u.ilk.cadence = x ∧ u.out.lines[alarmLine].commanded = b ∧ sounding u = sounding s := fun x b => by
    have hl := command_lineOnly alarmLine b (s.modIlk fun k => { k with cadence := x })
    have hst := congrArg Store.live (Reacted.of_lineOnly hl).store
    exact ⟨ActiveLaw.congr h.active (by rw [hl.ilk]; rfl) fun _ => by rw [hl.ilk]; exact .rfl, by rw [hl.ilk]; rfl,
      command_commanded _ _ _, sounding_of_live hst (by rw [hl.ilk]; rfl) fun _ _ => by rw [hl.ilk]; rfl⟩
  unfold Machine.alarmJudge
  split
  · rename_i hs _
    obtain ⟨ha, hc, hl, hsnd⟩ := hk (some (ms 500)) true
    exact ⟨⟨ha, fun _ hn => (by rw [hc] at hn; cases hn), fun _ => .inl ⟨hc, hl⟩⟩, by rw [AlarmLaw, hc, hsnd, hs]; rfl⟩
  · rename_i hs _
    obtain ⟨ha, hc, hl, hsnd⟩ := hk none false
    exact ⟨⟨ha, fun _ _ => hl, fun hn => absurd hc hn⟩, by rw [AlarmLaw, hc, hsnd, hs]; rfl⟩
  · rename_i h1 h2
    refine ⟨h, ?_⟩
    unfold AlarmLaw
    cases hs : sounding s <;> cases hc : s.ilk.cadence
    · rfl
    · exact absurd hc (h2 _ hs)
    · exact absurd hc (h1 hs)
    · rfl

theorem AlarmReady.listChanged (h : AlarmReady c on s) (b : ActionSet) : AlarmKept c on (listChanged b s) := by
  have hk := h.interlockLines.alarmJudge
  unfold Machine.listChanged
  dsimp only
  split
  · exact hk
  · exact hk.calm (rejudgeBounds_idled _).quiet

/-! ## Judgments and changes of mode -/

theorem AlarmReady.relisted {n : Fin 32} {e : Entry} {f : List (Fin 32) → List (Fin 32)} {b : ActionSet}
    (h : AlarmReady c on s) (ha : ActiveLaw (relisted n e f b s)) : AlarmKept c on (relisted n e f b s) := by
  have hr : AlarmReady c on (Machine.raise (.lockout n) ((s.modEntry n fun _ => e).modIlk fun k => { k with active := f k.active })) := by
    obtain ⟨x, hx⟩ := relisted_ilk n e f b s
    exact h.congr (ha.congr (by rw [hx]; rfl) fun m => by rw [hx]; exact .rfl) rfl rfl
  exact hr.listChanged b

/-- An entry's record moves, and its place in the list stands with its silencing. -/
theorem AlarmKept.modEntry (h : AlarmKept c on s) {n : Fin 32} {f : Entry → Entry}
    (hf : SameListing s.ilk.entries[n] (f s.ilk.entries[n])) : AlarmKept c on (s.modEntry n f) := by
  refine h.congr (h.active.modEntry hf.1) rfl rfl (sounding_of_live rfl rfl fun m hm => ?_)
  by_cases hmn : m = n
  · subst hmn
    rw [State.modEntry_entry_self]
    exact hf.2 ((h.active.2 m).1 hm)
  · rw [State.modEntry_entry_other s hmn]

theorem AlarmKept.notices (h : AlarmKept c on s) (l : List Notice) : AlarmKept c on (s.modIlk fun k => { k with notices := l }) :=
  h.congr (h.active.congr rfl fun _ => .rfl) rfl rfl (sounding_of_live rfl rfl fun _ _ => rfl)

variable (c on)

theorem alarmKept_listing : Listing (AlarmKept c on) where
  calm := AlarmKept.calm
  records := fun hf h => h.modEntry hf
  notifies := fun l h => h.notices l
  arrives := fun hn h => h.toAlarmReady.relisted (h.active.enlisted hn)
  departs := fun n h => h.toAlarmReady.relisted (h.active.delisted n)

variable {c on}

theorem AlarmKept.setMode (h : AlarmKept c on s) (m : Mode) : AlarmKept c on (setMode m s) := by
  have h0 : AlarmKept c on (modeBegun m s) := by
    have hi := modeBegun_ilk m s
    have hs := congrArg Store.live (modeBegun_interlocked (N := fun _ => True) m s).reacted.store
    refine h.congr (h.active.congr (by rw [hi]) fun _ => by rw [hi]) (by rw [hi]) ?_
      (sounding_of_live hs (by rw [hi]) fun _ _ => by rw [hi])
    unfold modeBegun
    split <;> rfl
  have h1 := ((alarmKept_listing c on).judgeAll h0).interlockLines
  rw [setMode_eq]
  exact (h1.calm (raise_quiet _ _)).calm ((rejudgeBounds_idled _).quiet.trans (pumpReadyJudge_quiet _))

variable (c on) in
theorem alarmKept_judging : Judging (fun _ => AlarmKept c on) where
  widens := fun h _ => h
  untouched := AlarmKept.untouched
  judges := fun _ h => (alarmKept_listing c on).judge _ h
  moves := fun m _ h => h.setMode m

theorem AlarmKept.settle (h : AlarmKept c on s) : AlarmKept c on (settle s) :=
  takeNotices_keeps (fun _ hs => hs.notices _)
    (fun _ _ _ _ hs => (alarmKept_judging c on).pto.takeNotice (fun _ _ hu => hu.holdSet (holdBegin_holdSet _))
      (hs.notices _)) _ h

theorem AlarmKept.leave (n : Fin 32) (h : AlarmKept c on s) : AlarmKept c on (leave n s) := by
  have hd := (alarmKept_listing c on).departs n h
  rw [leave_delisted]
  split
  · exact hd.holdSet (holdEnd_holdSet _)
  · exact hd

/-! ## Requests -/

/-- A write that no listed entry reads. -/
theorem AlarmKept.write (h : AlarmKept c on s) {i : Nat} {v : Half} (hl : ∀ n ∈ s.ilk.active, entryOfItem i ≠ some n) :
    AlarmKept c on (s.modStore fun m => { m with live := tableSet m.live i v }) := by
  refine h.congr h.active rfl rfl ?_
  unfold sounding
  rw [Bool.eq_iff_iff, List.any_eq_true, List.any_eq_true]
  refine exists_congr fun n => and_congr_right fun hn => ?_
  rw [entryActions_tableSet (hl n hn)]
  rfl

/-- Silenced entries stay where they were in the list. -/
theorem AlarmReady.silence (h : AlarmReady c on s) (n : Fin 32) : AlarmReady c on (silence n s) := by
  obtain hs | hs := silence_cases n s <;> rw [hs]
  · exact h
  · exact (h.congr (h.active.modEntry (f := fun e => { e with silenced := true }) .rfl) rfl rfl : AlarmReady c on _).raise _

/-! ## Out of service -/

theorem alarmKept_of_held (h : HeldLaw s) (hs : s.ctl.startup ≠ .running) (c : Timer) (on : Bool) : AlarmKept c on s := by
  obtain ⟨-, -, -, -, hi, -, -, -, -, hl, -⟩ := h hs
  have hcadence : s.ilk.cadence = none := by rw [hi]; rfl
  exact ⟨⟨(driveKept_of_held h hs).active, fun _ _ => by rw [hl alarmLine]; rfl, fun hn => absurd hcadence hn⟩,
    by rw [AlarmLaw, hcadence, sounding, hi]; rfl⟩

theorem alarmKept_loaded (h : HeldLaw s) (hs : s.ctl.startup ≠ .running) (c : Timer) (on : Bool) :
    AlarmKept c on ((loadSettings s).modCtl fun c => { c with startup := .running }) := by
  have hk := alarmKept_of_held h hs c on
  obtain ⟨-, -, -, -, hi, -⟩ := h hs
  have hl := loadSettings_loaded s
  refine hk.congr (hk.active.of_ilk hl.ilk) (by rw [State.modCtl_ilk, hl.ilk]) (by rw [State.modCtl_out, hl.lines]) ?_
  unfold sounding
  rw [State.modCtl_ilk, hl.ilk, hi]
  rfl

/-! ## The law -/

variable (c on) in
theorem alarmKept_lawful : Lawful (fun _ => AlarmKept c on) (AlarmKept c on) where
  toPtoLawful := (alarmKept_judging c on).pto
  opens := id
  closes := AlarmKept.settle
  rests := (alarmKept_judging c on).passes (K := NoEntry)
  widens := fun h _ => h
  passes := (alarmKept_judging c on).passes
  judges := fun {K _ _} hn h => (alarmKept_judging c on).judges (K := K) hn h
  joins := fun hp h => (alarmKept_listing c on).join (Entry.not_listed (.inr hp)) h
  leaves := fun {n _} _ _ h => h.leave n
  modes := fun hK h => (alarmKept_judging c on).modes hK h
  entersRoll := fun _ h => h.setMode _
  leavesRoll := fun _ h => h.setMode _
  silences := fun _ _ h => (List.foldlRecOn _ _ h.toAlarmReady fun _ hu n _ => hu.silence n : AlarmReady c on _).alarmJudge
  rewrites := fun {i n s} v hi h => by
    have hc := (alarmKept_listing c on).clearEntry (entryOfItem_some hi).1 h
    refine hc.write fun m hm => ?_
    rw [hi]
    intro he
    cases Option.some.inj he
    exact clearEntry_not_listed n hc.active hm
  writes := fun hi _ _ h => h.write (by simp [hi])
  stops := fun {s t} h hb => ((alarmKept_listing c on).judge 0 ((alarmKept_judging c on).passes (K := (· = 0)) h hb)).settle
  resets := fun {s f} hf _ => alarmKept_of_held (fullReset_held s f) (by
    rw [State.modCtl_ctl, hf]
    exact nofun) c on

end Law

/-! ## Every step -/

/-- Time runs the cadence timer down, and no more. -/
theorem alarm_elapse (s : State) (n : Micros) (h : AlarmLaw s) : AlarmLaw (elapse n s) ∧ (HornLaw s → HornLaw (elapse n s)) := by
  have hc : (elapse n s).ilk.cadence = s.ilk.cadence.map (· - n) := rfl
  have hl : (elapse n s).out.lines[alarmLine].commanded = s.out.lines[alarmLine].commanded := by simp [elapse]
  have hs : sounding (elapse n s) = sounding s := sounding_of_live rfl rfl fun m _ => by simp [elapse]
  refine ⟨?_, fun hh hn => ?_⟩
  · rw [AlarmLaw, hc, hs, Option.isSome_map]
    exact h
  · rw [hl]
    exact hh (Option.map_eq_none_iff.1 (hc ▸ hn))

/-- The cadence's expiry leaves the alarm sounding. -/
theorem alarm_cadenceTurned {s : State} (h : AlarmLaw s) (hc : s.ilk.cadence ≠ none) :
    AlarmLaw (cadenceTurned s) ∧ (cadenceTurned s).ilk.cadence ≠ none := by
  have hl := command_lineOnly alarmLine (!s.out.lines[alarmLine].commanded) (s.modIlk fun k => { k with cadence := some (ms 500) })
  have hcad : (cadenceTurned s).ilk.cadence = some (ms 500) := by rw [cadenceTurned, hl.ilk]; rfl
  have hs : sounding (cadenceTurned s) = sounding s := by
    have hst := congrArg Store.live (Reacted.of_lineOnly hl).store
    exact sounding_of_live hst (by rw [cadenceTurned, hl.ilk]; rfl) fun _ _ => by rw [cadenceTurned, hl.ilk]; rfl
  have hsome : s.ilk.cadence.isSome = true := Option.isSome_iff_ne_none.2 hc
  refine ⟨?_, by rw [hcad]; exact nofun⟩
  rw [AlarmLaw, hcad, hs, ← h, hsome]
  rfl

/-- Settles O15: the sounding condition is judged wherever the list moves or an entry is silenced, and nothing else
commands ALARM but the cadence's own expiry. -/
theorem stepKeepsAlarm : Obligations.StepKeepsAlarm := by
  intro s t ⟨ha, hheld, hlaw⟩ ht
  obtain ⟨hempty, rfl⟩ | ⟨c, rest, hp, hc⟩ := step_next ht
  · obtain ⟨h1, h2⟩ := alarm_elapse s 1 hlaw
    exact ⟨h1, h2, fun hne => absurd hempty hne⟩
  by_cases hcad : c = .cadenceTimerExpiry
  · subst hcad
    have hs : AlarmLaw t ∧ (HornLaw s → HornLaw t) := by
      have he : exec .cadenceTimerExpiry { s with pending := rest } = execCadenceTimerExpiry { s with pending := rest } := rfl
      rw [he, execCadenceTimerExpiry] at hc
      split at hc <;> cases hc
      · exact ⟨hlaw, id⟩
      · rename_i hn
        obtain ⟨h1, h2⟩ := alarm_cadenceTurned (s := { s with pending := rest }) hlaw (by simpa using hn)
        exact ⟨h1, fun _ hnone => absurd hnone h2⟩
    exact ⟨hs.1, hs.2, fun _ hhead => absurd (by rw [hp]; rfl) hhead⟩
  · have hk : AlarmKept s.ilk.cadence s.out.lines[alarmLine].commanded { s with pending := rest } :=
      ⟨⟨ha, fun hon => hon, fun hne => .inr ⟨hne, rfl, rfl⟩⟩, hlaw⟩
    have hkt := (alarmKept_lawful _ _).taken hk (fun h => absurd h hcad)
      (fun hl => by
        have hk := alarmKept_loaded (s := { s with pending := rest }) hheld (by rw [hl]; exact nofun)
          s.ilk.cadence s.out.lines[alarmLine].commanded
        exact (alarmKept_listing _ _).judgeAll hk.interlockLines) hc
    exact ⟨hkt.law, hkt.horn, fun _ _ => hkt.begun⟩

end Sys2Proof.Machine
end

section
/-! PROOF. The active list, the delay timers, the entries as their sources have them, and the stop hold (R33 to R42, R132,
R134): what one operation keeps. -/

namespace Sys2Proof.Machine

/-! ## The settings of an entry -/

/-- What a state and another give for the mode set, the latching and the delay of an entry, but entry 3's delay, agrees. -/
structure SameSettings (n : Fin 32) (s t : State) : Prop where
  modes : entryModes t n = entryModes s n
  latches : entryLatches t n = entryLatches s n
  delay : n ≠ 3 → entryDelay t n = entryDelay s n

theorem SameSettings.of_live {s t : State} (h : t.store.live = s.store.live) (n : Fin 32) : SameSettings n s t where
  modes := by simp only [entryModes, State.cfgN, h]
  latches := by simp only [entryLatches, State.cfg, h]
  delay := fun _ => by simp only [entryDelay, State.cfgN, h]

/-- Entries 0 to 15 are settled by the table of R34, whatever the settings are. -/
theorem SameSettings.of_fixed {n : Fin 32} (hn : n.val < 16) (s t : State) : SameSettings n s t where
  modes := by unfold entryModes; split <;> simp_all
  latches := by unfold entryLatches; split <;> simp_all
  delay := fun h3 => by
    have h3' : n.val ≠ 3 := fun h => h3 (Fin.ext h)
    unfold entryDelay
    split <;> simp_all

/-- A write of another entry's item, or of none's. -/
theorem SameSettings.tableSet {i : Nat} {n : Fin 32} (hn : entryOfItem i ≠ some n) (v : Half) (s : State) :
    SameSettings n s (s.modStore fun m => { m with live := tableSet m.live i v }) := by
  by_cases h16 : n.val < 16
  · exact .of_fixed h16 s _
  have hi : ∀ k ≤ 4, entryItem n k ≠ i := by
    rintro k hk rfl
    unfold entryOfItem entryItem at hn
    rw [dif_pos (by omega)] at hn
    exact hn (congrArg some (Fin.ext (by simp; omega)))
  have hv : ∀ k ≤ 4, tableValue (Machine.tableSet s.store.live i v) (entryItem n k) = tableValue s.store.live (entryItem n k) :=
    fun k hk => tableValue_tableSet_other (hi k hk) _ v
  exact
    { modes := by simp only [entryModes, State.cfgN, State.modStore_store, hv 1 (by decide)]
      latches := by simp only [entryLatches, State.cfg, State.modStore_store, hv 3 (by decide)]
      delay := fun h3 => by
        have h3' : n.val ≠ 3 := fun h => h3 (Fin.ext h)
        unfold entryDelay
        split <;> simp_all [State.cfgN, hv 4 (by decide)] }

/-! ## Where an entry stands -/

/-- PENDING or ACTIVE: the states of a source that is effective (R38 to R41). -/
def Entry.Raised (e : Entry) : Prop := e.state = .pending ∨ e.state = .active

/-- An entry is HELD only where it latches, and PENDING only where it has a delay. -/
def Shaped (n : Fin 32) (s : State) : Prop :=
  (s.ilk.entries[n].state = .held → entryLatches s n = true) ∧
  (s.ilk.entries[n].state = .pending → n = 3 ∨ entryDelay s n ≠ 0)

/-- An entry is PENDING or ACTIVE in its mode set alone, and exactly while its source is effective. -/
def Stood (n : Fin 32) (s : State) : Prop :=
  (s.ilk.entries[n].Raised → (entryModes s n).has s.ilk.mode = true) ∧
  (¬ Gauged n → (s.ilk.entries[n].Raised ↔ effective s n = true))

theorem effective_congr {n : Fin 32} {s t : State} (hs : SameSettings n s t) (hm : t.ilk.mode = s.ilk.mode)
    (hsrc : sourcePresent t n = sourcePresent s n) : effective t n = effective s n := by
  rw [effective, effective, hsrc, hs.modes, hm]

section Congr
variable {n : Fin 32} {s t : State} (he : t.ilk.entries[n].state = s.ilk.entries[n].state) (hs : SameSettings n s t)
include he hs

theorem Shaped.congr (h : Shaped n s) : Shaped n t := by
  obtain ⟨hheld, hpending⟩ := h
  unfold Shaped
  rw [he, hs.latches]
  refine ⟨hheld, fun hp => ?_⟩
  by_cases h3 : n = 3
  · exact .inl h3
  · rw [hs.delay h3]
    exact hpending hp

theorem Stood.congr (h : Stood n s) (hm : t.ilk.mode = s.ilk.mode)
    (hsrc : ¬ Gauged n → sourcePresent t n = sourcePresent s n) : Stood n t := by
  obtain ⟨hmode, hsource⟩ := h
  unfold Stood Entry.Raised at *
  rw [he, hs.modes, hm]
  exact ⟨hmode, fun hg => by rw [effective_congr hs hm (hsrc hg)]; exact hsource hg⟩

end Congr

/-! ## Where a judgment takes an entry -/

/-- A judgment leaves an entry PENDING or ACTIVE exactly where its source is effective. -/
theorem entryMoved_raised (e : Entry) (src : Bool) (d : Nat) (l : Bool) : (entryMoved e src d l).Raised ↔ src = true := by
  unfold entryMoved Entry.Raised
  cases hs : e.state <;> cases src <;> simp only [hs]
  · simp
  · split <;> simp
  · simp
  · simp
  · split <;> simp
  · simp
  · simp
  · simp

/-- A judgment keeps the delay timer in PENDING alone. -/
theorem entryMoved_delay {e : Entry} (h : e.delay.isSome = true ↔ e.state = .pending) (src : Bool) (d : Nat) (l : Bool) :
    (entryMoved e src d l).delay.isSome = true ↔ (entryMoved e src d l).state = .pending := by
  unfold entryMoved
  cases hs : e.state <;> cases src <;> simp only [hs] at h ⊢
  · exact h
  · split <;> simp
  · simp
  · exact h
  · split
    · simpa using h
    · simp
  · exact h
  · exact h
  · simpa using h

theorem judge_shaped {n : Fin 32} {s : State} (h : Shaped n s) : Shaped n (judge n s) := by
  have hst := (judge_judged n s).reacted.store
  obtain ⟨hheld, hpending⟩ := h
  unfold Shaped
  rw [entryLatches_of_store hst, entryDelay_of_store hst, judge_entry]
  unfold entryMoved
  cases hs : s.ilk.entries[n].state <;> cases effective s n <;> simp only [hs]
  · exact ⟨nofun, nofun⟩
  · split
    · exact ⟨nofun, nofun⟩
    · exact ⟨nofun, fun _ => .inr ‹_›⟩
  · exact ⟨nofun, nofun⟩
  · exact ⟨nofun, fun _ => hpending hs⟩
  · split
    · exact ⟨fun _ => ‹_›, nofun⟩
    · exact ⟨nofun, nofun⟩
  · exact ⟨nofun, nofun⟩
  · exact ⟨fun _ => hheld hs, nofun⟩
  · exact ⟨nofun, nofun⟩

/-! ## Lines in fault under a judgment -/

theorem interlockLines_sameFaults (s : State) : SameFaults s (interlockLines s) :=
  (command_sameFaults _ _ s).trans (command_sameFaults _ _ _)

theorem alarmJudge_sameFaults (s : State) : SameFaults s (alarmJudge s) := by
  unfold alarmJudge
  split
  · exact command_sameFaults _ _ _
  · exact command_sameFaults _ _ _
  · exact .of_out rfl

theorem listChanged_sameFaults (b : ActionSet) (s : State) : SameFaults s (listChanged b s) := by
  have h := (interlockLines_sameFaults s).trans (alarmJudge_sameFaults _)
  unfold listChanged
  dsimp only
  split
  · exact h
  · exact h.trans (rejudgeBounds_idled _).quiet.faults

theorem sameFaults_listing (s : State) : Listing (SameFaults s) where
  calm := fun h hq => h.trans hq.faults
  records := fun _ h => h
  notifies := fun _ h => h
  arrives := fun _ h => SameFaults.trans h (listChanged_sameFaults _ _)
  departs := fun _ h => SameFaults.trans h (listChanged_sameFaults _ _)

theorem judge_sameFaults (n : Fin 32) (s : State) : SameFaults s (judge n s) := (sameFaults_listing s).judge n (.of_out rfl)

theorem judge_stood {n : Fin 32} (s : State) : Stood n (judge n s) := by
  have hj := judge_judged n s
  have hst := hj.reacted.store
  have hr : (judge n s).ilk.entries[n].Raised ↔ effective s n = true := by
    rw [judge_entry]
    exact entryMoved_raised _ _ _ _
  refine ⟨fun h => ?_, fun hg => ?_⟩
  · have he := hr.1 h
    rw [effective, Bool.and_eq_true] at he
    rw [(SameSettings.of_live (congrArg Store.live hst) n).modes, hj.mode]
    exact he.2
  · rw [hr, effective_congr (.of_live (congrArg Store.live hst) n) hj.mode
      (hj.toInterlocked.sources (judge_sameFaults n s) hg)]

/-- The active list law alone is kept by every move of an entry. -/
theorem activeLaw_listing : Listing fun s => ActiveLaw s where
  calm := fun h hq => h.of_ilk hq.ilk
  records := fun hf h => h.modEntry hf.1
  notifies := fun _ h => h.congr rfl fun _ => .rfl
  arrives := fun hn h => h.enlisted hn
  departs := fun n h => h.delisted n

end Sys2Proof.Machine
end

section
/-! PROOF. The law of the active list, of the entries and of the stop hold through judgments, changes of mode, join
notices and the two ends of a stop hold. -/

namespace Sys2Proof.Machine

/-- The entries of `B` stand as their sources have them, but for those of `K`, whose sources have moved; the list, the delay
timers and the stop hold stand by R42, R33 and R132. With `w` a pump stop has joined, and its hold has not begun. -/
structure Placed (B : Fin 32 → Prop) (w : Bool) (K : Fin 32 → Prop) (s : State) : Prop where
  active : ActiveLaw s
  delays : DelayLaw s
  shaped : ∀ n, B n → Shaped n s
  stood : ∀ n, B n → ¬ K n → Stood n s
  hold : s.out.hold = true ↔ (0 : Fin 32) ∈ s.ilk.active ∧ w = false
  waits : w = true → (0 : Fin 32) ∈ s.ilk.active
  notices : ∀ x ∈ s.ilk.notices, x.entry ≠ 0

namespace Placed

variable {B : Fin 32 → Prop} {w : Bool} {K : Fin 32 → Prop} {s t : State}

theorem widens {L : Fin 32 → Prop} (h : Placed B w K s) (hKL : ∀ n, K n → L n) : Placed B w L s :=
  { h with stood := fun n hB hL => h.stood n hB fun hK => hL (hKL n hK) }

/-- Every entry, the list, the mode and the hold stand; so do the sources and the settings that the law reads. -/
theorem stand (h : Placed B w K s) (ha : t.ilk.active = s.ilk.active)
    (he : ∀ n : Fin 32, t.ilk.entries[n].state = s.ilk.entries[n].state ∧
      t.ilk.entries[n].delay.isSome = s.ilk.entries[n].delay.isSome)
    (hm : t.ilk.mode = s.ilk.mode) (hx : ∀ x ∈ t.ilk.notices, x ∈ s.ilk.notices) (hh : t.out.hold = s.out.hold)
    (hs : ∀ n, B n → SameSettings n s t) (hsrc : ∀ n, ¬ K n → ¬ Gauged n → sourcePresent t n = sourcePresent s n) :
    Placed B w K t where
  active := h.active.congr ha fun n => by unfold Entry.Listed; rw [(he n).1]
  delays := fun n => by rw [(he n).1, (he n).2]; exact h.delays n
  shaped := fun n hB => (h.shaped n hB).congr (he n).1 (hs n hB)
  stood := fun n hB hK => (h.stood n hB hK).congr (he n).1 (hs n hB) hm (hsrc n hK)
  hold := by rw [hh, ha]; exact h.hold
  waits := by rw [ha]; exact h.waits
  notices := fun x hxt => h.notices x (hx x hxt)

/-- The interlock unit, the settings and the hold stand. -/
theorem of_ilk (h : Placed B w K s) (hi : t.ilk = s.ilk) (hl : t.store.live = s.store.live) (hh : t.out.hold = s.out.hold)
    (hsrc : ∀ n, ¬ K n → ¬ Gauged n → sourcePresent t n = sourcePresent s n) : Placed B w K t :=
  h.stand (by rw [hi]) (fun n => by rw [hi]; exact ⟨rfl, rfl⟩) (by rw [hi]) (fun x hx => by rwa [hi] at hx) hh
    (fun n _ => .of_live hl n) hsrc

theorem untouched (h : Placed B w K s) (hu : Untouched K s t) : Placed B w K t := h.of_ilk hu.ilk hu.live hu.hold hu.sources

theorem calm (h : Placed B w K s) (hq : Quiet s t) : Placed B w K t := h.untouched hq.beside.toUntouched

/-- The beginning of the stop hold ends the waiting, and the end of it comes with entry 0's leave (R132, R134). -/
theorem holdSet {b v : Bool} (h : Placed B w K s) (hs : HoldSet b s t) (hb : b = true ↔ (0 : Fin 32) ∈ s.ilk.active ∧ v = false)
    (hv : v = true → (0 : Fin 32) ∈ s.ilk.active) : Placed B v K t :=
  { active := h.active.of_ilk hs.ilk
    delays := fun n => by rw [hs.ilk]; exact h.delays n
    shaped := fun n hB => (h.shaped n hB).congr (by rw [hs.ilk]) (.of_live (by rw [hs.reacted.store]) n)
    stood := fun n hB hK => (h.stood n hB hK).congr (by rw [hs.ilk]) (.of_live (by rw [hs.reacted.store]) n) (by rw [hs.ilk])
      hs.sources
    hold := by rw [hs.hold, hs.ilk]; exact hb
    waits := by rw [hs.ilk]; exact hv
    notices := by rw [hs.ilk]; exact h.notices }

theorem holdBegins (h : Placed B true K s) : Placed B false K (holdBegin s) :=
  h.holdSet (holdBegin_holdSet s) ⟨fun _ => ⟨h.waits rfl, rfl⟩, fun _ => rfl⟩ nofun

/-- One entry has moved, the list with it, and perhaps the hold; the sources of the others stand. -/
theorem replace {v : Bool} {n : Fin 32} (h : Placed B w (fun m => K m ∨ m = n) s) (ha : ActiveLaw t)
    (he : ∀ m, m ≠ n → t.ilk.entries[m] = s.ilk.entries[m]) (hm : t.ilk.mode = s.ilk.mode)
    (hl : t.store.live = s.store.live) (hsrc : ∀ m, m ≠ n → ¬ K m → ¬ Gauged m → sourcePresent t m = sourcePresent s m)
    (hd : t.ilk.entries[n].delay.isSome = true ↔ t.ilk.entries[n].state = .pending) (hshape : B n → Shaped n t)
    (hstood : B n → ¬ K n → Stood n t) (hh : t.out.hold = true ↔ (0 : Fin 32) ∈ t.ilk.active ∧ v = false)
    (hv : v = true → (0 : Fin 32) ∈ t.ilk.active) (hx : ∀ x ∈ t.ilk.notices, x.entry ≠ 0) : Placed B v K t where
  active := ha
  delays := fun m => by
    by_cases hmn : m = n
    · subst hmn
      exact hd
    · rw [he m hmn]
      exact h.delays m
  shaped := fun m hB => by
    by_cases hmn : m = n
    · subst hmn
      exact hshape hB
    · exact (h.shaped m hB).congr (by rw [he m hmn]) (.of_live hl m)
  stood := fun m hB hK => by
    by_cases hmn : m = n
    · subst hmn
      exact hstood hB hK
    · exact (h.stood m hB (not_or.2 ⟨hK, hmn⟩)).congr (by rw [he m hmn]) (.of_live hl m) hm (hsrc m hmn hK)
  hold := hh
  waits := hv
  notices := hx

/-- An entry other than 0 has been judged, with what R38 to R41 move with it. -/
theorem moved {n : Fin 32} (hn : n ≠ 0) (h : Placed B w (fun m => K m ∨ m = n) s) (hj : Judged (· = n) s t) (hf : SameFaults s t)
    (ha : ActiveLaw t) (hd : t.ilk.entries[n].delay.isSome = true ↔ t.ilk.entries[n].state = .pending)
    (hshape : B n → Shaped n t) (hstood : B n → ¬ K n → Stood n t) : Placed B w K t := by
  have h0 : (0 : Fin 32) ∈ t.ilk.active ↔ (0 : Fin 32) ∈ s.ilk.active := hj.listed 0 (Ne.symm hn)
  refine h.replace ha (fun m hm => hj.entries m hm) hj.mode (by rw [hj.reacted.store])
    (fun m _ _ hg => hj.toInterlocked.sources hf hg) hd hshape hstood (by rw [hj.bounds.hold, h0]; exact h.hold)
    (by rw [h0]; exact h.waits) fun x hx => ?_
  obtain ⟨new, he, hnew⟩ := hj.notices
  rw [he] at hx
  obtain hx | hx := List.mem_append.1 hx
  · exact h.notices x hx
  · rw [(hnew x hx).1]
    exact hn

theorem judges {n : Fin 32} (hn : n ≠ 0) (h : Placed B w (fun m => K m ∨ m = n) s) : Placed B w K (judge n s) :=
  h.moved hn (judge_judged n s) (judge_sameFaults n s) (activeLaw_listing.judge n h.active)
    (by rw [judge_entry]; exact entryMoved_delay (h.delays n) _ _ _) (fun hB => judge_shaped (h.shaped n hB))
    fun _ _ => judge_stood s

/-- An entry that was neither PENDING nor ACTIVE is CLEAR. -/
theorem stood_cleared {n : Fin 32} (hs : Stood n s) (hu : ¬ s.ilk.entries[n].Raised) (hc : t.ilk.entries[n].state = .clear)
    (he : ¬ Gauged n → effective t n = effective s n) : Stood n t := by
  have hr : ¬ t.ilk.entries[n].Raised := by
    unfold Entry.Raised
    rw [hc]
    decide
  exact ⟨fun h => absurd h hr, fun hg => by rw [he hg, ← hs.2 hg]; exact iff_of_false hr hu⟩

/-- Entry 0 stands: its judgment moves nothing (R34). -/
theorem judge_zero (hB : B 0) (hK : ¬ K 0) (h : Placed B w K s) : judge 0 s = s := by
  have hs := (h.stood 0 hB hK).2 (by unfold Gauged; decide)
  have hp : s.ilk.entries[(0 : Fin 32)].state ≠ .pending := fun hp => ((h.shaped 0 hB).2 hp).elim nofun fun hd => hd rfl
  unfold Entry.Raised at hs
  unfold judge
  split
  · rename_i hc he
    rw [hc, he] at hs
    exact absurd (hs.2 rfl) (by decide)
  · exact absurd ‹_› hp
  · rename_i hc he
    rw [hc, he] at hs
    exact absurd (hs.1 (.inr rfl)) nofun
  · rename_i hc he
    rw [hc, he] at hs
    exact absurd (hs.2 rfl) (by decide)
  · rfl

end Placed

/-! ## Changes of mode -/

theorem stood_zero {s : State} : Stood 0 s ↔ (s.ilk.entries[(0 : Fin 32)].Raised ↔ lineSource s 3 = true) := by
  have hm : (entryModes s 0).has s.ilk.mode = true := by cases s.ilk.mode <;> rfl
  unfold Stood
  rw [hm, effective_zero]
  exact ⟨fun h => h.2 (by unfold Gauged; decide), fun h => ⟨fun _ => rfl, fun _ => h⟩⟩

namespace Placed

variable {B : Fin 32 → Prop} {w : Bool} {K : Fin 32 → Prop} {s t : State}

/-- Every entry but 0 is judged, and entry 0 stands. -/
theorem judgesList (hB : B 0) (hK : ¬ K 0) : ∀ (l : List (Fin 32)) {s : State}, Placed B w (fun m => K m ∨ m ∈ l ∧ m ≠ 0) s →
    Placed B w K (l.foldl (fun s n => judge n s) s)
  | [], _, h => h.widens fun _ hn => hn.elim id fun hn => absurd hn.1 List.not_mem_nil
  | n :: l, s, h => by
    have hmem : ∀ m, (K m ∨ m ∈ n :: l ∧ m ≠ 0) → (K m ∨ m ∈ l ∧ m ≠ 0) ∨ m = n := by
      rintro m (hm | ⟨hm, h0⟩)
      · exact .inl (.inl hm)
      · obtain rfl | hm := List.mem_cons.1 hm
        · exact .inr rfl
        · exact .inl (.inr ⟨hm, h0⟩)
    by_cases hn : n = 0
    · subst hn
      rw [List.foldl_cons, h.judge_zero hB (not_or.2 ⟨hK, fun h0 => h0.2 rfl⟩)]
      refine judgesList hB hK l (h.widens fun m hm => ?_)
      obtain hk | rfl := hmem m hm
      · exact hk
      · exact hm.imp_right fun h0 => absurd rfl h0.2
    · exact judgesList hB hK l ((h.widens hmem).judges hn)

theorem judgesAll (hB : B 0) (h : Placed B w (fun n => n ≠ 0) s) : Placed B w NoEntry (judgeAll s) :=
  judgesList hB id allEntries (h.widens fun n hn => .inr ⟨mem_allEntries n, hn⟩)

/-- The interlock unit has judged no entry: it has commanded its lines, or moved the governor's bounds. -/
theorem judged_none (h : Placed B w K s) (hj : Judged (fun _ => False) s t) (hf : SameFaults s t)
    (hi : t.ilk.active = s.ilk.active) (hx : t.ilk.notices = s.ilk.notices) : Placed B w K t :=
  h.stand hi (fun n => by rw [hj.entries n id]; exact ⟨rfl, rfl⟩) hj.mode (fun x hm => hx ▸ hm) hj.bounds.hold
    (fun n _ => .of_live (by rw [hj.reacted.store]) n) fun n _ hg => hj.toInterlocked.sources hf hg

theorem interlockLines (h : Placed B w K s) : Placed B w K (interlockLines s) :=
  h.judged_none (interlockLines_judged s) (interlockLines_sameFaults s) (by rw [interlockLines_ilk]) (by rw [interlockLines_ilk])

theorem alarmJudge (h : Placed B w K s) : Placed B w K (alarmJudge s) := by
  obtain ⟨c, hc⟩ := alarmJudge_ilk s
  exact h.judged_none (alarmJudge_judged s) (alarmJudge_sameFaults s) (by rw [hc]) (by rw [hc])

/-- A mode has been entered: entry 0 stands in every mode, and the others wait for their judgment. -/
theorem modeBegun (hK : ¬ K 0) (m : Mode) (h : Placed B w K s) : Placed B w (fun n => n ≠ 0) (modeBegun m s) := by
  have hi := modeBegun_ilk m s
  have hb := modeBegun_interlocked (N := fun _ => False) m s
  have hlive : (Machine.modeBegun m s).store.live = s.store.live := by rw [hb.reacted.store]
  exact
    { active := h.active.congr (by rw [hi]) fun n => by rw [hi]
      delays := fun n => by rw [hi]; exact h.delays n
      shaped := fun n hn => (h.shaped n hn).congr (by rw [hi]) (.of_live hlive n)
      stood := fun n hn h0 => by
        obtain rfl := not_not.1 h0
        have hs := stood_zero.1 (h.stood 0 hn hK)
        rw [stood_zero, hi, hb.reacted.lineSource]
        exact hs
      hold := by rw [hb.bounds.hold, hi]; exact h.hold
      waits := by rw [hi]; exact h.waits
      notices := by rw [hi]; exact h.notices }

theorem setMode (hB : B 0) (hK : ¬ K 0) (m : Mode) (h : Placed B w K s) : Placed B w NoEntry (setMode m s) := by
  have h1 := (h.modeBegun hK m).judgesAll hB
  rw [setMode_eq]
  exact (h1.interlockLines.calm (raise_quiet _ _)).calm ((rejudgeBounds_idled _).quiet.trans (pumpReadyJudge_quiet _))

theorem judging (hB : B 0) : Judging (Placed B w) where
  widens := fun h hKL => h.widens hKL
  untouched := Placed.untouched
  judges := fun hn h => h.judges hn
  moves := fun m hK h => (h.setMode hB hK m).widens fun _ hn => absurd hn id

/-! ## Join notices -/

theorem dropsNotice (h : Placed B w K s) {l : List Notice} (hl : ∀ x ∈ l, x ∈ s.ilk.notices) :
    Placed B w K (s.modIlk fun i => { i with notices := l }) :=
  h.stand rfl (fun _ => ⟨rfl, rfl⟩) rfl hl rfl (fun _ _ => ⟨rfl, rfl, fun _ => rfl⟩) fun _ _ _ => rfl

/-- The notices of the other entries are taken. -/
theorem takesNotices (hB : B 0) (k : Nat) (h : Placed B w NoEntry s) : Placed B w NoEntry (takeNotices k s) :=
  takeNotices_keeps (fun _ hs => hs.dropsNotice nofun)
    (fun u x rest hu hs => (judging hB).pto.takeNotice (fun h0 => absurd h0 (hs.notices x (by rw [hu]; exact List.mem_cons_self)))
      (hs.dropsNotice fun y hy => by rw [hu]; exact List.mem_cons_of_mem _ hy)) k h

theorem settles (hB : B 0) (h : Placed B w NoEntry s) : Placed B w NoEntry (settle s) := h.takesNotices hB _

end Placed

/-- No notice is left (R44). -/
theorem takeNotices_taken : ∀ (k : Nat) (s : State), NoticesTaken (takeNotices k s)
  | 0, _ => rfl
  | k + 1, s => by
    unfold takeNotices
    split
    · assumption
    · exact takeNotices_taken k _

end Sys2Proof.Machine
end

section
/-! PROOF. The law of the active list, of the entries and of the stop hold through joins, leaves, writes, the pump stop and
full reset; and every step keeps it (R33 to R42, R132, R134). -/

namespace Sys2Proof.Machine

/-! ## Joins and leaves -/

theorem relisted_store (n : Fin 32) (e : Entry) (f : List (Fin 32) → List (Fin 32)) (b : ActionSet) (s : State) :
    (relisted n e f b s).store = s.store := (listChanged_reacted b _).store

theorem relisted_hold (n : Fin 32) (e : Entry) (f : List (Fin 32) → List (Fin 32)) (b : ActionSet) (s : State) :
    (relisted n e f b s).out.hold = s.out.hold := (listChanged_judged (N := fun _ => False) b _).bounds.hold

/-- Neither the entries nor the list are sources. -/
theorem relisted_sources (n : Fin 32) (e : Entry) (f : List (Fin 32) → List (Fin 32)) (b : ActionSet) (s : State) {m : Fin 32}
    (hg : ¬ Gauged m) : sourcePresent (relisted n e f b s) m = sourcePresent s m := by
  have h := (listChanged_judged (N := fun _ => False) b (raise (.lockout n)
    ((s.modEntry n fun _ => e).modIlk fun k => { k with active := f k.active }))).toInterlocked.sources
    (listChanged_sameFaults b _) hg
  exact h.trans ((raise_quiet _ _).sources hg)

theorem join_hold (n : Fin 32) (s : State) : (join n s).out.hold = s.out.hold := by
  have h : (enlisted n s).out.hold = s.out.hold := relisted_hold n _ _ _ s
  obtain hj | hj := join_enlisted n s <;> rw [hj]
  · exact h
  · exact h

/-- Nothing of the interlock unit's own record is a source. -/
theorem sourcePresent_modIlk (f : Interlock → Interlock) (s : State) (m : Fin 32) :
    sourcePresent (s.modIlk f) m = sourcePresent s m := rfl

theorem join_sources (n : Fin 32) (s : State) {m : Fin 32} (hg : ¬ Gauged m) :
    sourcePresent (join n s) m = sourcePresent s m := by
  have h : sourcePresent (enlisted n s) m = sourcePresent s m := relisted_sources n _ _ _ s hg
  obtain hj | hj := join_enlisted n s <;> rw [hj]
  · exact h
  · rw [sourcePresent_modIlk, h]

/-- The notices that a join gives are of its entry. -/
theorem noticeOf_entry {n : Fin 32} {s : State} {x : Notice} (hx : x ∈ noticeOf n s) : x.entry = n := by
  unfold noticeOf at hx
  split at hx
  · rw [List.mem_singleton.1 hx]
  · cases hx

/-- An entry that has become CLEAR is shaped as any. -/
theorem shaped_of_clear {n : Fin 32} {s : State} (h : s.ilk.entries[n].state = .clear) : Shaped n s := by
  unfold Shaped
  rw [h]
  exact ⟨nofun, nofun⟩

theorem shaped_of_active {n : Fin 32} {s : State} (h : s.ilk.entries[n].state = .active) : Shaped n s := by
  unfold Shaped
  rw [h]
  exact ⟨nofun, nofun⟩

namespace Placed

variable {B : Fin 32 → Prop} {w : Bool} {K : Fin 32 → Prop} {s t : State}

/-- A PENDING entry joins at the end of its delay (R39). -/
theorem joins (hB : B 0) {n : Fin 32} (hp : s.ilk.entries[n].state = .pending) (h : Placed B w NoEntry s) :
    Placed B w NoEntry (join n s) := by
  have hn : n ≠ 0 := by
    rintro rfl
    exact ((h.shaped 0 hB).2 hp).elim nofun fun hd => hd rfl
  obtain ⟨c, hi⟩ := join_ilk n s
  have hl : ¬ s.ilk.entries[n].Listed := Entry.not_listed (.inr hp)
  have hent : (join n s).ilk.entries[n].state = .active := by rw [join_entry]
  have hd : (join n s).ilk.entries[n].delay = none := by rw [join_entry]
  have hlive := congrArg Store.live (join_reacted n s).store
  have h0 : (0 : Fin 32) ∈ (join n s).ilk.active ↔ (0 : Fin 32) ∈ s.ilk.active := by simp [hi, Ne.symm hn]
  refine h.widens (fun _ hk => absurd hk id) |>.replace (n := n) (activeLaw_listing.join hl h.active)
    (fun m hm => by simp [hi, Fin.val_ne_of_ne hm.symm]) (by rw [hi]) hlive (fun m _ _ hg => join_sources n s hg)
    (by rw [hd, hent]; exact ⟨nofun, nofun⟩) (fun _ => shaped_of_active hent) (fun hBn _ => ?_)
    (by rw [join_hold, h0]; exact h.hold) (by rw [h0]; exact h.waits) fun x hx => ?_
  · obtain ⟨hmode, hsource⟩ := h.stood n hBn id
    have hs := SameSettings.of_live hlive n
    have hm : (join n s).ilk.mode = s.ilk.mode := by rw [hi]
    refine ⟨fun _ => by rw [hs.modes, hm]; exact hmode (.inl hp), fun hg => ?_⟩
    rw [effective_congr hs hm (join_sources n s hg)]
    exact iff_of_true (.inr hent) ((hsource hg).1 (.inl hp))
  · rw [hi] at hx
    obtain hx | hx := List.mem_append.1 hx
    · exact h.notices x hx
    · rw [noticeOf_entry hx]
      exact hn

/-- A HELD entry leaves, and entry 0's leave ends the stop hold (R41, R134). -/
theorem leaves {n : Fin 32} (hp : ¬ s.ilk.entries[n].Raised) (h : Placed B false NoEntry s) : Placed B false NoEntry (leave n s) := by
  obtain ⟨c, hi⟩ := leaves_ilk n s
  have hself := leave_entry_self n s
  have hlive : (leave n s).store.live = s.store.live := by rw [(leave_reacted n s).store]
  have hm : (leave n s).ilk.mode = s.ilk.mode := by rw [hi]
  have hd : ∀ m, ¬ Gauged m → sourcePresent (delisted n s) m = sourcePresent s m := fun m hg => relisted_sources _ _ _ _ _ hg
  have hsrc : ∀ m, ¬ Gauged m → sourcePresent (leave n s) m = sourcePresent s m := fun m hg => by
    rw [leave_delisted]
    split
    · exact ((holdEnd_holdSet _).sources hg).trans (hd m hg)
    · exact hd m hg
  have ha : ActiveLaw (leave n s) := by
    have ha := h.active.delisted n
    rw [leave_delisted]
    split
    · exact ha.of_ilk (holdEnd_holdSet _).ilk
    · exact ha
  have hh : (leave n s).out.hold = true ↔ (0 : Fin 32) ∈ (leave n s).ilk.active ∧ false = false := by
    by_cases hn : n = 0
    · subst hn
      have hf : (leave 0 s).out.hold = false := by rw [leave_delisted, if_pos rfl]; exact (holdEnd_holdSet _).hold
      rw [hf, hi]
      simp
    · have hf : (leave n s).out.hold = s.out.hold := by rw [leave_delisted, if_neg hn]; exact relisted_hold _ _ _ _ _
      rw [hf, hi]
      simpa [Ne.symm hn] using h.hold
  exact h.widens (fun _ hk => absurd hk id) |>.replace (n := n) ha (fun m hmn => leave_entry_other hmn s) hm hlive
    (fun m _ _ hg => hsrc m hg) (by rw [hself]; exact ⟨nofun, nofun⟩) (fun _ => shaped_of_clear (by rw [hself]))
    (fun hBn _ => stood_cleared (h.stood n hBn id) hp (by rw [hself]) fun hg => effective_congr (.of_live hlive n) hm (hsrc n hg))
    hh nofun (by rw [hi]; exact h.notices)

/-! ## Silence Alarm -/

theorem raised (h : Placed B w K s) (k : ReportKey) : Placed B w K (raise k s) := h.calm (raise_quiet k s)

theorem silenced (h : Placed B w K s) (n : Fin 32) : Placed B w K (silence n s) := by
  obtain hs | hs := silence_cases n s <;> rw [hs]
  · exact h
  · have hk : Placed B w K (s.modEntry n fun e => { e with silenced := true }) := by
      refine h.stand rfl (fun m => ?_) rfl (fun _ hx => hx) rfl (fun _ _ => ⟨rfl, rfl, fun _ => rfl⟩) fun _ _ _ => rfl
      by_cases hm : m = n
      · subst hm
        rw [State.modEntry_entry_self]
        exact ⟨rfl, rfl⟩
      · rw [State.modEntry_entry_other s hm]
        exact ⟨rfl, rfl⟩
    exact hk.raised _

/-! ## Writes -/

end Placed

/-- A write of another entry's item leaves a source that is no limit. -/
theorem sourcePresent_tableSet {i : Nat} {n : Fin 32} (hn : entryOfItem i ≠ some n) (hg : ¬ Gauged n) (v : Half) (s : State) :
    sourcePresent (s.modStore fun m => { m with live := tableSet m.live i v }) n = sourcePresent s n := by
  unfold sourcePresent
  split
  case h_5 h => exact absurd (.inl (Fin.ext h)) hg
  case h_6 h => exact absurd (.inr (.inl (Fin.ext h))) hg
  case h_7 h => exact absurd (.inr (.inr (Fin.ext h))) hg
  case h_17 =>
    have h16 : 16 ≤ n.val := by
      simp only [imp_false] at *
      omega
    have hi : entryItem n 0 ≠ i := by
      rintro rfl
      unfold entryOfItem entryItem at hn
      rw [dif_pos (by omega)] at hn
      exact hn (congrArg some (Fin.ext (by simp; omega)))
    have hs : entrySource (s.modStore fun m => { m with live := tableSet m.live i v }) n = entrySource s n := by
      simp only [entrySource, State.cfgN, State.modStore_store, tableValue_tableSet_other hi]
    change configuredSource _ (entrySource _ n) = configuredSource s (entrySource s n)
    rw [hs]
    rfl
  all_goals rfl

namespace Placed

variable {B : Fin 32 → Prop} {w : Bool} {K : Fin 32 → Prop} {s t : State}

/-- A write of an item of no entry, or of one that is CLEAR and is to be judged. -/
theorem writes (h : Placed B w K s) {i : Nat} (v : Half)
    (hi : ∀ n, entryOfItem i = some n → K n ∧ s.ilk.entries[n].state = .clear) :
    Placed B w K (s.modStore fun m => { m with live := tableSet m.live i v }) where
  active := h.active
  delays := h.delays
  shaped := fun n hB => by
    by_cases hn : entryOfItem i = some n
    · exact shaped_of_clear (hi n hn).2
    · exact Shaped.congr (s := s) rfl (.tableSet hn v s) (h.shaped n hB)
  stood := fun n hB hK => by
    have hn : entryOfItem i ≠ some n := fun hn => hK (hi n hn).1
    exact Stood.congr (s := s) rfl (.tableSet hn v s) (h.stood n hB hK) rfl fun hg => sourcePresent_tableSet hn hg v s
  hold := h.hold
  waits := h.waits
  notices := h.notices

/-- The entry whose item is written becomes CLEAR (R35). -/
theorem clears {n : Fin 32} (hn : n ≠ 0) (h : Placed B w NoEntry s) :
    Placed B w (· = n) (clearEntry n s) ∧ (clearEntry n s).ilk.entries[n].state = .clear := by
  have hw : Placed B w (fun m => m = n ∨ m = n) s := h.widens fun _ hk => absurd hk id
  have ha := activeLaw_listing.clearEntry hn h.active
  have hf := (sameFaults_listing s).clearEntry hn (.of_out rfl)
  obtain ⟨hc, hs⟩ | ⟨hc, hs⟩ | hc := clearEntry_cases n s <;> rw [hc] at ha hf ⊢
  · exact ⟨h.widens fun _ hk => absurd hk id, hs⟩
  · have hself := State.modEntry_entry_self s n fun e => { e with state := .clear, delay := none }
    have hst : (s.modEntry n fun e => { e with state := .clear, delay := none }).ilk.entries[n].state = .clear := by rw [hself]
    refine ⟨hw.moved hn (modEntry_judged n _ (noStop_modEntry fun h0 => absurd h0 hn)) hf ha ?_ (fun _ => shaped_of_clear hst)
      fun _ hk => absurd rfl hk, hst⟩
    rw [hself]
    exact ⟨nofun, nofun⟩
  · have hself := leave_entry_self n s
    refine ⟨hw.moved hn (leave_judged hn s) hf ha (by rw [hself]; exact ⟨nofun, nofun⟩)
      (fun _ => shaped_of_clear (by rw [hself])) fun _ hk => absurd rfl hk, by rw [hself]⟩

/-! ## The pump stop -/

/-- Entry 0's record moves between ACTIVE and HELD, with its report (R40, R41). -/
theorem turns (h : Placed B false (· = 0) s) {f : Entry → Entry}
    (hl : SameListing s.ilk.entries[(0 : Fin 32)] (f s.ilk.entries[(0 : Fin 32)]))
    (hd : (f s.ilk.entries[(0 : Fin 32)]).delay = s.ilk.entries[(0 : Fin 32)].delay)
    (hp : s.ilk.entries[(0 : Fin 32)].state ≠ .pending) (hq : (f s.ilk.entries[(0 : Fin 32)]).state ≠ .pending)
    (hr : (f s.ilk.entries[(0 : Fin 32)]).Raised ↔ lineSource s 3 = true) :
    Placed B false NoEntry (raise (.lockout 0) (s.modEntry 0 f)) := by
  have hself := State.modEntry_entry_self s 0 f
  have hk : Placed B false NoEntry (s.modEntry 0 f) := by
    refine h.widens (fun _ hk => .inr hk) |>.replace (n := 0) (h.active.modEntry hl.1)
      (fun m hm => State.modEntry_entry_other s hm f) rfl rfl (fun _ _ _ _ => rfl) ?_ (fun _ => ?_) (fun _ _ => ?_) h.hold h.waits
      h.notices
    · rw [hself, hd]
      exact iff_of_false (fun hs => hp ((h.delays 0).1 hs)) hq
    · exact ⟨fun _ => rfl, fun hs => absurd (hself ▸ hs) hq⟩
    · rw [stood_zero, hself]
      exact hr
  exact hk.raised _

/-- The pump stop joins: its hold is still to begin (R44, R132). -/
theorem stopJoins (h : Placed B false (· = 0) s) (hc : s.ilk.entries[(0 : Fin 32)].state = .clear) (he : lineSource s 3 = true) :
    Placed B true NoEntry ((join 0 s).modIlk fun i => { i with notices := [] }) := by
  have hl : ¬ s.ilk.entries[(0 : Fin 32)].Listed := Entry.not_listed (.inl hc)
  have h0 : (0 : Fin 32) ∉ s.ilk.active := fun hm => hl ((h.active.2 0).1 hm)
  obtain ⟨c, hi⟩ := join_ilk 0 s
  have hent := join_entry 0 s
  have hhold : s.out.hold = false := by
    cases hh : s.out.hold
    · rfl
    · exact absurd (h.hold.1 hh).1 h0
  have ha := activeLaw_listing.join hl h.active
  have hsrc : ∀ m, ¬ Gauged m → sourcePresent (join 0 s) m = sourcePresent s m := fun m hg => join_sources 0 s hg
  have hlive := congrArg Store.live (join_reacted 0 s).store
  have hh := (join_hold 0 s).trans hhold
  generalize join 0 s = t at *
  exact h.widens (fun _ hk => .inr hk) |>.replace (n := 0) (v := true) (ha.congr rfl fun _ => .rfl)
    (fun m hm => by
      have h0 : 0 ≠ m.val := fun h0 => hm (Fin.ext h0.symm)
      simp [hi, h0])
    (by rw [State.modIlk_ilk, hi]) hlive (fun m _ _ hg => hsrc m hg)
    (by rw [State.modIlk_ilk, hent]; exact ⟨nofun, nofun⟩) (fun _ => shaped_of_active (by rw [State.modIlk_ilk, hent]))
    (fun _ _ => by
      rw [stood_zero, State.modIlk_ilk, hent]
      refine iff_of_true (.inr rfl) ?_
      rw [← he]
      exact hsrc 0 (by unfold Gauged; decide))
    (by rw [State.modIlk_out, hh]; exact ⟨nofun, fun hx => nomatch hx.2⟩) (fun _ => by simp [hi]) nofun

end Placed

end Sys2Proof.Machine
end

section
/-! PROOF. Every step keeps the active list, the delay timers, the entries as their sources have them, and the stop hold. -/

namespace Sys2Proof.Machine

namespace Placed

variable {B : Fin 32 → Prop} {w : Bool} {K : Fin 32 → Prop} {s t : State}

/-- The pump stop's line has settled: entry 0 is judged, and where it joins, its notice begins the hold (R35, R44, R132). -/
theorem stops (hB : B 0) (h : Placed B false (· = 0) s) (hx : NoticesTaken s) : Placed B false NoEntry (settle (judge 0 s)) := by
  have hp : s.ilk.entries[(0 : Fin 32)].state ≠ .pending := fun hp => ((h.shaped 0 hB).2 hp).elim nofun fun hd => hd rfl
  have hstand : (s.ilk.entries[(0 : Fin 32)].Raised ↔ lineSource s 3 = true) → Placed B false NoEntry s := fun hr => by
    have hstood : ∀ n, B n → ¬ NoEntry n → Stood n s := fun n hBn _ => by
      by_cases hn : n = 0
      · subst hn
        exact stood_zero.2 hr
      · exact h.stood n hBn hn
    exact { h with stood := hstood }
  have hjoin : s.ilk.entries[(0 : Fin 32)].state = .clear → lineSource s 3 = true → Placed B false NoEntry (settle (join 0 s)) := by
    intro hc he
    have hj := h.stopJoins hc he
    have hone : (join 0 s).ilk.notices = [⟨0, entryActions s 0⟩] := by
      obtain ⟨c, hi⟩ := join_ilk 0 s
      have hx : s.ilk.notices = [] := hx
      rw [hi]
      change s.ilk.notices ++ noticeOf 0 s = _
      rw [hx]
      rfl
    rw [settle_of_one hone, takeNotice_stop rfl rfl rfl]
    exact (((judging hB).pto.ptoOnNotice hj _).calm (governorForceIdle_idled _).quiet).holdBegins.takesNotices hB _
  unfold judge
  rw [effective_zero]
  unfold Entry.Raised at hstand
  cases hs : s.ilk.entries[(0 : Fin 32)].state <;> cases he : lineSource s 3 <;> rw [hs, he] at hstand <;> dsimp only
  · exact (hstand (by decide)).settles hB
  · exact hjoin hs he
  · exact absurd hs hp
  · exact absurd hs hp
  · refine (h.turns (f := fun e => { e with state := .held }) ⟨iff_of_true (.inr rfl) (.inl hs), fun _ => rfl⟩ rfl hp nofun ?_).settles hB
    rw [he]
    exact ⟨fun hr => hr.elim nofun nofun, nofun⟩
  · exact (hstand (by decide)).settles hB
  · exact (hstand (by decide)).settles hB
  · refine (h.turns (f := fun e => { e with state := .active }) ⟨iff_of_true (.inl rfl) (.inr hs), fun _ => rfl⟩ rfl hp nofun ?_).settles hB
    rw [he]
    exact iff_of_true (.inr rfl) rfl

end Placed

/-! ## Out of service -/

/-- In full reset no source is present but, perhaps, a limit's (R34, R172). -/
theorem sourcePresent_held {s : State} (h : HeldLaw s) (hs : s.ctl.startup ≠ .running) {n : Fin 32} (hg : ¬ Gauged n) :
    sourcePresent s n = false := by
  obtain ⟨-, -, hanalog, hdisc, -, hpto, hgov, htank, -, hout, hauth, -, hstore⟩ := h hs
  have hsettled : ∀ k : Fin 12, s.disc[k].settled = false := fun k => by
    have hr : ∀ k : Fin 12, State.reset.disc[k].settled = false := by decide
    rw [hdisc k]
    exact hr k
  have hline : ∀ k, lineSource s k = false := fun k => by rw [lineSource, hsettled k]; rfl
  have hfaulty : ∀ l : Fin 10, ¬ State.reset.out.lines[l].diag.faulty = true := by decide
  unfold sourcePresent
  split
  case h_1 => exact hline 3
  case h_2 => rw [hpto]; rfl
  case h_3 => rw [hline 2]; rfl
  case h_4 => rw [hpto]; rfl
  case h_5 h => exact absurd (.inl (Fin.ext h)) hg
  case h_6 h => exact absurd (.inr (.inl (Fin.ext h))) hg
  case h_7 h => exact absurd (.inr (.inr (Fin.ext h))) hg
  case h_8 =>
    have h0 : s.disc[0].settled = false := hsettled 0
    rw [h0]
    rfl
  case h_9 => rw [htank]; rfl
  case h_10 => rw [hgov]; rfl
  case h_11 => rw [hanalog]; rfl
  case h_12 => rw [sensorFault, hanalog, htank]; rfl
  case h_13 =>
    refine List.any_eq_false.2 fun l _ => ?_
    rw [hout l]
    exact hfaulty l
  case h_14 => rw [hstore]; rfl
  case h_15 => rw [hauth]; rfl
  case h_16 => rw [htank]; rfl
  case h_17 =>
    dsimp only
    split
    · exact hline _
    · rfl

theorem clear_of_held {s : State} (h : HeldLaw s) (hs : s.ctl.startup ≠ .running) (n : Fin 32) :
    s.ilk.entries[n] = Entry.reset := by
  obtain ⟨-, -, -, -, hi, -⟩ := h hs
  rw [hi]
  simp [State.reset]

/-- Time moves no source. -/
theorem sourcePresent_elapse (n : Micros) (s : State) (m : Fin 32) : sourcePresent (elapse n s) m = sourcePresent s m := by
  have hd : ∀ k : Fin 12, (elapse n s).disc[k].settled = s.disc[k].settled ∧ (elapse n s).disc[k].active = s.disc[k].active :=
    fun k => by simp [elapse]
  have hline : ∀ k, lineSource (elapse n s) k = lineSource s k := fun k => by rw [lineSource, (hd k).1, (hd k).2, lineSource]
  have hout : ∀ l : Fin 10, (elapse n s).out.lines[l].commanded = s.out.lines[l].commanded ∧
      (elapse n s).out.lines[l].diag = s.out.lines[l].diag := fun l => by simp [elapse]
  unfold sourcePresent
  split
  case h_1 => exact hline 3
  case h_3 => rw [hline 2]; rfl
  case h_8 =>
    have hs : (elapse n s).disc[0].settled = s.disc[0].settled := (hd 0).1
    have ha : (elapse n s).disc[0].active = s.disc[0].active := (hd 0).2
    rw [hs, ha]
  case h_9 => rw [(hout tankValveLine).1]; rfl
  case h_13 => simp only [(hout _).2]
  case h_17 => exact configuredSource_congr (d := entrySource s m) fun k _ _ => hline k
  all_goals rfl

namespace Placed

variable {B : Fin 32 → Prop} {s t : State}

theorem of_held (h : HeldLaw s) (hs : s.ctl.startup ≠ .running) : Placed B false NoEntry s := by
  have hclear := clear_of_held h hs
  obtain ⟨-, -, -, -, hi, -, -, -, hh, -⟩ := h hs
  have hr : ∀ n : Fin 32, ¬ s.ilk.entries[n].Raised := fun n => by rw [hclear]; exact fun hx => hx.elim nofun nofun
  exact
    { active := (driveKept_of_held h hs).active
      delays := fun n => by rw [hclear]; exact ⟨nofun, nofun⟩
      shaped := fun n _ => shaped_of_clear (by rw [hclear]; rfl)
      stood := fun n _ _ => ⟨fun hx => absurd hx (hr n), fun hg => iff_of_false (hr n) (by
        rw [effective, sourcePresent_held h hs hg]
        exact nofun)⟩
      hold := by rw [hh, hi]; exact ⟨nofun, fun hx => nomatch hx.1⟩
      waits := nofun
      notices := by rw [hi]; exact nofun }

/-- The table is filled where the entries it settles are CLEAR: they are to be judged (R171). -/
theorem loaded (h : Placed B false NoEntry s) (hB : ∀ n, B n → n.val < 16 ∨ s.ilk.entries[n].state = .clear) :
    Placed B false (fun n => n ≠ 0) ((loadSettings s).modCtl fun c => { c with startup := .running }) := by
  have hl := loadSettings_loaded s
  have hi : ((loadSettings s).modCtl fun c => { c with startup := .running }).ilk = s.ilk := hl.ilk
  exact
    { active := h.active.of_ilk hi
      delays := fun n => by rw [hi]; exact h.delays n
      shaped := fun n hn => by
        obtain h16 | hc := hB n hn
        · exact (h.shaped n hn).congr (by rw [hi]) (.of_fixed h16 _ _)
        · exact shaped_of_clear (by rw [hi]; exact hc)
      stood := fun n hn h0 => by
        obtain rfl := not_not.1 h0
        have hs := stood_zero.1 (h.stood 0 hn id)
        rw [stood_zero, hi, lineSource, State.modCtl_disc, hl.disc]
        exact hs
      hold := by rw [State.modCtl_out, hl.hold, hi]; exact h.hold
      waits := nofun
      notices := by rw [hi]; exact h.notices }

theorem begins (hB : B 0) (h : Placed B false NoEntry s) (hl : ∀ n, B n → n.val < 16 ∨ s.ilk.entries[n].state = .clear) :
    Placed B false NoEntry (serviceJudged (loadSettings s)) := (h.loaded hl).interlockLines.judgesAll hB

/-! ## The law -/

/-- The law through every command, between which no notice waits (R44). -/
theorem lawful (hB : B 0) : Lawful (Placed B false) (fun s => Placed B false NoEntry s ∧ NoticesTaken s) where
  toPtoLawful := (judging hB).pto
  opens := fun h => h.1
  closes := fun h => ⟨h.settles hB, takeNotices_taken _ _⟩
  rests := fun h hb => ⟨h.1.untouched hb.toUntouched, by rw [NoticesTaken, hb.ilk]; exact h.2⟩
  widens := fun h hKL => h.widens hKL
  passes := fun h hb => h.untouched hb.toUntouched
  judges := fun hn h => h.judges hn
  joins := fun hp h => h.1.joins hB hp
  leaves := fun hp ha h => h.leaves fun hr => hr.elim hp ha
  modes := fun hK h => (judging hB).modes hK h
  entersRoll := fun _ h => h.setMode hB id _
  leavesRoll := fun _ h => h.setMode hB id _
  silences := fun {s} _ _ h => (List.foldlRecOn _ _ h fun _ hu n _ => hu.silenced n : Placed B false NoEntry _).alarmJudge
  rewrites := fun {i n s} v hi h => by
    obtain ⟨hc, hclear⟩ := h.clears (entryOfItem_some hi).1
    refine hc.writes v fun m hm => ?_
    obtain rfl := Option.some.inj (hi.symm.trans hm)
    exact ⟨rfl, hclear⟩
  writes := fun {_ _ _ v} hi _ _ h => h.writes v (by simp [hi])
  stops := fun {s t} h hb => ⟨stops hB ((h.1.widens fun _ hk => absurd hk id).untouched hb.toUntouched)
    (by rw [NoticesTaken, hb.ilk]; exact h.2), takeNotices_taken _ _⟩
  resets := fun {s f} hf _ => by
    have hh := fullReset_held s f
    have hs : ((fullReset s).modCtl f).ctl.startup ≠ .running := by
      rw [State.modCtl_ctl, hf]
      exact nofun
    obtain ⟨-, -, -, -, hi, -⟩ := hh hs
    exact ⟨of_held hh hs, by rw [NoticesTaken, hi]; rfl⟩

theorem elapse (h : Placed B false NoEntry s) (n : Micros) : Placed B false NoEntry (elapse n s) := by
  refine h.stand rfl (fun m => ?_) rfl (fun _ hx => hx) rfl (fun _ _ => ⟨rfl, rfl, fun _ => rfl⟩) fun m _ _ => sourcePresent_elapse n s m
  simp [Machine.elapse, tick]

theorem cadenceTurned (h : Placed B false NoEntry s) : Placed B false NoEntry (cadenceTurned s) := by
  have hk : Placed B false NoEntry (s.modIlk fun k => { k with cadence := some (ms 500) }) :=
    h.stand rfl (fun _ => ⟨rfl, rfl⟩) rfl (fun _ hx => hx) rfl (fun _ _ => ⟨rfl, rfl, fun _ => rfl⟩) fun _ _ _ => rfl
  unfold Machine.cadenceTurned
  exact hk.judged_none (command_judged (.inr (.inr rfl)) _ _) (command_sameFaults _ _ _) (by rw [command_ilk]) (by rw [command_ilk])

end Placed

/-! ## The law and the manual's laws -/

/-- Entries 0, 1 and 2, whose sources the statement names by themselves. -/
def StopOrPto : Fin 32 → Prop := fun n => n = 0 ∨ n = 1 ∨ n = 2

/-- Entries 0, 1 and 2 have every mode in their mode sets (R34). -/
theorem effective_stopOrPto {n : Fin 32} (hn : StopOrPto n) (s : State) : effective s n = sourcePresent s n := by
  have hm : (entryModes s n).has s.ilk.mode = true := by
    obtain rfl | rfl | rfl := hn <;> cases s.ilk.mode <;> rfl
  rw [effective, hm, Bool.and_true]

theorem stood_stopOrPto {n : Fin 32} (hn : StopOrPto n) {s : State} :
    Stood n s ↔ (s.ilk.entries[n].Raised ↔ sourcePresent s n = true) := by
  have hm : (entryModes s n).has s.ilk.mode = true := by
    obtain rfl | rfl | rfl := hn <;> cases s.ilk.mode <;> rfl
  have hg : ¬ Gauged n := by obtain rfl | rfl | rfl := hn <;> unfold Gauged <;> decide
  unfold Stood
  rw [hm, effective_stopOrPto hn]
  exact ⟨fun h => h.2 hg, fun h => ⟨fun _ => rfl, fun _ => h⟩⟩

theorem stopTaken_iff (s : State) : Shaped 0 s ∧ Stood 0 s ↔ StopTaken s := by
  have hshape : Shaped 0 s ↔ s.ilk.entries[(0 : Fin 32)].state ≠ .pending :=
    ⟨fun h hp => (h.2 hp).elim nofun fun hd => hd rfl, fun h => ⟨fun _ => rfl, fun hp => absurd hp h⟩⟩
  rw [hshape, stood_zero, StopTaken, and_comm, Entry.Raised]
  exact and_congr_left fun h => by
    rw [or_iff_right h]
    exact .rfl

theorem ptoFault_iff (s : State) : Shaped 1 s ∧ Stood 1 s ↔
    s.ilk.entries[(1 : Fin 32)].state = if s.pto.state = .fault then EntryState.active else .clear := by
  have hshape : Shaped 1 s ↔ s.ilk.entries[(1 : Fin 32)].state ≠ .held ∧ s.ilk.entries[(1 : Fin 32)].state ≠ .pending :=
    ⟨fun h => ⟨fun hh => (nomatch h.1 hh), fun hp => (h.2 hp).elim nofun fun hd => hd rfl⟩,
      fun h => ⟨fun hh => absurd hh h.1, fun hp => absurd hp h.2⟩⟩
  have hsource : sourcePresent s 1 = true ↔ s.pto.state = .fault := beq_iff_eq
  rw [hshape, stood_stopOrPto (.inr (.inl rfl)), hsource, Entry.Raised]
  by_cases hf : s.pto.state = .fault <;> cases s.ilk.entries[(1 : Fin 32)].state <;> simp [hf]

theorem ptoConfirm_iff (s : State) : Shaped 2 s ∧ Stood 2 s ↔
    s.ilk.entries[(2 : Fin 32)].state ≠ .held ∧
    (s.ilk.entries[(2 : Fin 32)].state = .clear ↔
      ¬ (lineSource s 2 = true ∧ (s.pto.state = .disengaged ∨ s.pto.state = .fault))) := by
  have hdelay : entryDelay s 2 ≠ 0 := (by decide : (500 : Nat) ≠ 0)
  have hshape : Shaped 2 s ↔ s.ilk.entries[(2 : Fin 32)].state ≠ .held :=
    ⟨fun h hh => (nomatch h.1 hh), fun h => ⟨fun hh => absurd hh h, fun _ => .inr hdelay⟩⟩
  have hsource : sourcePresent s 2 = true ↔ lineSource s 2 = true ∧ (s.pto.state = .disengaged ∨ s.pto.state = .fault) := by
    simp [sourcePresent]
  rw [hshape, stood_stopOrPto (.inr (.inr rfl)), hsource, Entry.Raised]
  refine and_congr_right fun h => ?_
  generalize (lineSource s 2 = true ∧ (s.pto.state = .disengaged ∨ s.pto.state = .fault)) = p
  cases hs : s.ilk.entries[(2 : Fin 32)].state
  · simp
  · simp
  · simp
  · exact absurd hs h

theorem placed_iff {B : Fin 32 → Prop} {s : State} : Placed B false NoEntry s ∧ NoticesTaken s ↔
    ActiveLaw s ∧ DelayLaw s ∧ (∀ n, B n → Shaped n s ∧ Stood n s) ∧ HoldLaw s ∧ NoticesTaken s := by
  constructor
  · rintro ⟨h, hx⟩
    exact ⟨h.active, h.delays, fun n hn => ⟨h.shaped n hn, h.stood n hn id⟩, by simpa [HoldLaw] using h.hold, hx⟩
  · rintro ⟨ha, hd, hs, hh, hx⟩
    have hx' : s.ilk.notices = [] := hx
    exact ⟨⟨ha, hd, fun n hn => (hs n hn).1, fun n hn _ => (hs n hn).2, by simpa [HoldLaw] using hh, nofun,
      by rw [hx']; exact nofun⟩, hx⟩

theorem sourcesTaken_iff (s : State) : (∀ n, Shaped n s ∧ Stood n s) ↔ SourcesTaken s := by
  refine forall_congr' fun n => ?_
  unfold Shaped Stood Gauged Entry.Raised
  constructor
  · rintro ⟨⟨h1, h2⟩, h3, h4⟩
    exact ⟨h3, h1, h2, fun h h' h'' => h4 (by simp [h, h', h''])⟩
  · rintro ⟨h3, h1, h2, h4⟩
    refine ⟨⟨h1, h2⟩, h3, fun hg => ?_⟩
    simp only [not_or] at hg
    exact h4 hg.1 hg.2.1 hg.2.2

/-- A step keeps the law, where a part that loads has its other entries CLEAR. -/
theorem Placed.step {B : Fin 32 → Prop} (hB : B 0) {s t : State} (h : Placed B false NoEntry s ∧ NoticesTaken s)
    (hl : s.ctl.startup = .loading → ∀ n, B n → n.val < 16 ∨ s.ilk.entries[n].state = .clear) (ht : Machine.step s = .next t) :
    Placed B false NoEntry t ∧ NoticesTaken t := by
  have hcad : ∀ u : State, (Machine.cadenceTurned u).ilk.notices = u.ilk.notices := fun u => by rw [Machine.cadenceTurned, command_ilk]; rfl
  refine (lawful hB).step h (fun hs => ⟨hs.1.elapse 1, hs.2⟩) (fun u hu => ⟨hu.1.cadenceTurned, ?_⟩) (fun l hload => ?_) ht
  · rw [NoticesTaken, hcad]
    exact hu.2
  · exact begins hB (h.1.untouched (pending_beside s l).toUntouched) (hl hload)

/-- Settles O6: `Placed` for entries 0 to 2, and for every entry, in which a part that loads begins with none raised. -/
theorem stepKeepsActiveList : Obligations.StepKeepsActiveList := by
  intro s t ⟨ha, hd, hstop, hpto, hhold, hx⟩ ht
  have hthree : ∀ n, StopOrPto n → Shaped n s ∧ Stood n s := by
    rintro n (rfl | rfl | rfl)
    · exact (stopTaken_iff s).2 hstop
    · exact (ptoFault_iff s).2 hpto.1
    · exact (ptoConfirm_iff s).2 hpto.2
  have hfew := placed_iff.1 (Placed.step (.inl rfl) (placed_iff.2 ⟨ha, hd, hthree, hhold, hx⟩) (fun _ n hn => .inl (by
    obtain rfl | rfl | rfl := hn <;> decide)) ht)
  obtain ⟨ta, td, tthree, thold, tx⟩ := hfew
  refine ⟨ta, td, (stopTaken_iff t).1 (tthree 0 (.inl rfl)),
    ⟨(ptoFault_iff t).1 (tthree 1 (.inr (.inl rfl))), (ptoConfirm_iff t).1 (tthree 2 (.inr (.inr rfl)))⟩, thold, tx,
    fun hheld hsrc => ?_⟩
  have hall := placed_iff.1 (Placed.step (B := fun _ => True) trivial
    (placed_iff.2 ⟨ha, hd, fun n _ => (sourcesTaken_iff s).2 hsrc n, hhold, hx⟩)
    (fun hl n _ => .inr (by rw [clear_of_held hheld (by rw [hl]; exact nofun)]; rfl)) ht)
  obtain ⟨-, -, hs, -⟩ := hall
  exact (sourcesTaken_iff t).1 fun n => hs n trivial

end Sys2Proof.Machine
end

section
/-! PROOF. How a judgment moves an entry (R38 to R42, R45), and the table of the entries (R34, R36). -/

namespace Sys2Proof.Machine

/-! ## Where a judgment leaves the entry, the list and the report -/

theorem join_stands (n : Fin 32) (s : State) : EntryStands n ⟨.active, none, false⟩ (s.ilk.active ++ [n]) (join n s) := by
  obtain ⟨c, hi⟩ := join_ilk n s
  exact ⟨join_entry n s, by rw [hi], join_reported n s⟩

/-- A list that has been judged keeps an entry's report. -/
theorem relisted_reported (n : Fin 32) (e : Entry) (f : List (Fin 32) → List (Fin 32)) (b : ActionSet) (s : State) :
    Reported (.lockout n) ⟨byte e.state.code, 0, byte (bit e.silenced)⟩ (relisted n e f b s) := by
  refine (listChanged_judged (N := fun _ => False) b _).told _ _ (by simp) ?_
  convert raise_reported (.lockout n) _ using 1
  simp [recordOf]

theorem delisted_stands (n : Fin 32) (s : State) :
    EntryStands n ⟨.clear, none, false⟩ (s.ilk.active.filter (· != n)) (delisted n s) := by
  obtain ⟨c, hi⟩ := relisted_ilk n ⟨.clear, none, false⟩ (·.filter fun m => m != n) (actionsInForce s) s
  refine ⟨?_, ?_, relisted_reported n _ _ _ s⟩ <;> rw [delisted, hi]
  exact Vector.getElem_set_self n.isLt

/-- An entry whose record moves in its place, with its report. -/
theorem recorded_stands (n : Fin 32) (f : Entry → Entry) (s : State) :
    EntryStands n (f s.ilk.entries[n]) s.ilk.active (raise (.lockout n) (s.modEntry n f)) := by
  have hself := State.modEntry_entry_self s n f
  refine ⟨hself, rfl, ?_⟩
  have h := raise_reported (.lockout n) (s.modEntry n f)
  rwa [recordOf, hself] at h

theorem judge_cases (n : Fin 32) (s : State) :
    let e := s.ilk.entries[n]
    let t := judge n s
    if effective s n then
      if e.state = .clear then
        if entryDelay s n = 0 then EntryStands n ⟨.active, none, false⟩ (s.ilk.active ++ [n]) t
        else t = s.modEntry n fun e => { e with state := .pending, delay := some (ms (entryDelay s n)) }
      else if e.state = .held then EntryStands n { e with state := .active } s.ilk.active t
      else t = s
    else if e.state = .pending then t = s.modEntry n fun e => { e with state := .clear, delay := none }
    else if e.state = .active then
      if entryLatches s n then EntryStands n { e with state := .held } s.ilk.active t
      else EntryStands n ⟨.clear, none, false⟩ (s.ilk.active.filter (· != n)) t
    else t = s := by
  intro e t
  have ht : t = judge n s := rfl
  unfold judge at ht
  cases hs : s.ilk.entries[n].state <;> cases he : effective s n <;> rw [hs, he] at ht <;> dsimp only at ht <;>
    simp only [e, reduceIte, reduceCtorEq, Bool.false_eq_true]
  · exact ht
  · split at ht <;> rename_i hd
    · rw [if_pos hd, ht]
      exact join_stands n s
    · rw [if_neg hd]
      exact ht
  · exact ht
  · exact ht
  · split at ht <;> rename_i hl
    · rw [if_pos hl, ht]
      exact recorded_stands n (fun e => { e with state := .held }) s
    · rw [if_neg hl, ht, leave_delisted, if_neg (ne_zero_of_not_latches hl)]
      exact delisted_stands n s
  · exact ht
  · exact ht
  · rw [ht]
    exact recorded_stands n (fun e => { e with state := .active }) s

/-! ## The table of the entries -/

theorem bit_testBit (v k : Nat) : bit (v.testBit k) = v / 2 ^ k % 2 := by
  rw [bit, Nat.testBit_eq_decide_div_mod_eq]
  obtain h | h := Nat.mod_two_eq_zero_or_one (v / 2 ^ k) <;> simp [h]

theorem modeSetOf_code (v : Nat) : (modeSetOf v).code = v % 16 := by
  simp only [modeSetOf, ModeSet.code, bit_testBit]
  omega

theorem actionSetOf_code (v : Nat) : (actionSetOf v).code = v % 64 := by
  simp only [actionSetOf, ActionSet.code, bit_testBit]
  omega

theorem modeSet_has (m : ModeSet) (x : Mode) : m.has x = m.code.testBit x.code := by
  obtain ⟨a, b, c, d⟩ := m
  cases x <;> revert a b c d <;> decide

section Table
variable (s : State) (n : Fin 32)

theorem entryModes_code : (entryModes s n).code =
    if n.val < 16 then [15, 15, 15, 12, 8, 8, 4, 4, 12, 12, 15, 15, 15, 15, 12, 15].getD n.val 0
    else s.cfgN (257 + 5 * (n.val - 16)) % 16 := by
  split <;> rename_i hn
  · obtain ⟨k, hk⟩ := n
    have hk16 : k < 16 := hn
    interval_cases k <;> rfl
  · rw [(configurable_fields s (by omega)).1, modeSetOf_code]

theorem entryActions_code : (entryActions s n).code =
    if n.val < 16 then [46, 34, 33, 40, 48, 36, 40, 32, 40, 40, 32, 32, 32, 32, 32, 32].getD n.val 0
    else s.cfgN (258 + 5 * (n.val - 16)) % 64 := by
  split <;> rename_i hn
  · obtain ⟨k, hk⟩ := n
    have hk16 : k < 16 := hn
    interval_cases k <;> rfl
  · have hi : entryItem n 2 = 258 + 5 * (n.val - 16) := by unfold entryItem; omega
    rw [entryActions_configurable s (by omega), actionSetOf_code, hi]

theorem entryLatches_eq : entryLatches s n =
    if n.val < 16 then [0, 3, 5, 6, 12, 13, 14, 15].contains n.val else s.cfg (259 + 5 * (n.val - 16)) == 1 := by
  split <;> rename_i hn
  · obtain ⟨k, hk⟩ := n
    have hk16 : k < 16 := hn
    interval_cases k <;> rfl
  · exact (configurable_fields s (by omega)).2.1

theorem entryDelay_eq : entryDelay s n =
    if n.val < 16 then [0, 0, 500, s.cfgN 76, 0, 3000, 0, 1000, 0, 0, 1000].getD n.val 0
    else s.cfgN (260 + 5 * (n.val - 16)) := by
  split <;> rename_i hn
  · obtain ⟨k, hk⟩ := n
    have hk16 : k < 16 := hn
    interval_cases k <;> rfl
  · exact (configurable_fields s (by omega)).2.2.1

/-- The source of entry 11, over the five channels and the six probes. -/
theorem sensorFault_eq :
    let invalid (c : AnalogChannel) : Bool := !c.valid && c.firstJudged
    sensorFault s = (invalid s.analog.dis || invalid s.analog.int || invalid s.analog.hwt || invalid s.analog.hfm ||
      invalid s.analog.cas || decide (∃ i : Fin 6, s.tank.probes[i].state = .fault) ||
      s.tank.water.orderFault || s.tank.foam.orderFault || !s.tank.water.tableValid || !s.tank.foam.tableValid) := by
  have hp : (allProbes.any fun p => s.tank.probes[p].state == .fault) = decide (∃ i : Fin 6, s.tank.probes[i].state = .fault) := by
    rw [Bool.eq_iff_iff, List.any_eq_true, decide_eq_true_eq]
    have hall : ∀ i, i ∈ allProbes := by decide
    exact exists_congr fun i => by rw [and_iff_right (hall i), beq_iff_eq]
  unfold sensorFault
  rw [hp]
  simp [Bool.or_assoc]

/-- The source of a configurable entry is the line that its setting names (R36). -/
theorem sourcePresent_configurable (hn : 16 ≤ n.val) : sourcePresent s n =
    decide (∃ d : Fin 12, 4 ≤ d.val ∧ d.val = s.cfgN (256 + 5 * (n.val - 16)) ∧ lineSource s d = true) := by
  have hs : sourcePresent s n = configuredSource s (entrySource s n) := by
    unfold sourcePresent
    split
    case h_17 => rfl
    all_goals omega
  rw [hs, (configurable_fields s hn).2.2.2, Bool.eq_iff_iff, decide_eq_true_eq, configuredSource]
  split
  · rename_i hd
    exact ⟨fun hl => ⟨⟨_, hd.2⟩, hd.1, rfl, hl⟩, fun ⟨d, _, he, hl⟩ => by
      rwa [show (⟨_, hd.2⟩ : Fin 12) = d from Fin.ext he.symm]⟩
  · rename_i hd
    exact ⟨nofun, fun ⟨d, h4, he, _⟩ => absurd ⟨he ▸ h4, he ▸ d.isLt⟩ hd⟩

/-- The sources of the table of R34. -/
theorem sourcePresent_built (hn : n.val < 16) :
    let invalid (c : AnalogChannel) : Bool := !c.valid && c.firstJudged
    sourcePresent s n = [lineSource s 3, s.pto.state == .fault,
      lineSource s 2 && (s.pto.state == .disengaged || s.pto.state == .fault), s.pto.slip,
      decide (s.cfgN 61 < s.road.speed.natAbs), decide (s.cfgN 61 + s.cfgN 62 < s.road.speed.natAbs),
      decide (s.cfgN 63 ≤ s.road.creep.natAbs), s.disc[0].settled && !s.disc[0].active,
      s.tank.water.cls == .reserve && s.out.lines[tankValveLine].commanded && !s.tank.external,
      s.gov.casingHot, s.analog.supplyLow,
      invalid s.analog.dis || invalid s.analog.int || invalid s.analog.hwt || invalid s.analog.hfm ||
      invalid s.analog.cas || decide (∃ i : Fin 6, s.tank.probes[i].state = .fault) ||
      s.tank.water.orderFault || s.tank.foam.orderFault || !s.tank.water.tableValid || !s.tank.foam.tableValid,
      decide (∃ m : Fin 10, s.out.lines[m].diag.faulty = true),
      s.store.defaultsInUse, s.auth.lapsed, s.tank.fillFault].getD n.val false := by
  intro invalid
  have h61 := s.cfg_eq_cfgN (i := 61) (by decide)
  have h62 := s.cfg_eq_cfgN (i := 62) (by decide)
  have h63 := s.cfg_eq_cfgN (i := 63) (by decide)
  have hfault : (allLines.any fun l => s.out.lines[l].diag.faulty) = decide (∃ m : Fin 10, s.out.lines[m].diag.faulty = true) := by
    have hall : ∀ l, l ∈ allLines := by decide
    rw [Bool.eq_iff_iff, List.any_eq_true, decide_eq_true_eq]
    exact exists_congr fun l => and_iff_right (hall l)
  unfold sourcePresent
  split
  case h_5 h => rw [h, h61]; norm_cast
  case h_6 h => rw [h, h61, h62]; norm_cast
  case h_7 h => rw [h, h63]; norm_cast
  case h_12 h => rw [h, sensorFault_eq]; rfl
  case h_13 h => rw [h, hfault]; rfl
  case h_17 =>
    simp only [imp_false] at *
    omega
  all_goals rename_i h; rw [h]; rfl

end Table

/-- Settles O25: the branches of `judge`, and the table of R34 entry by entry. -/
theorem judgmentMovesEntry : Obligations.JudgmentMovesEntry := by
  refine ⟨fun n s => ?_, fun n s => ?_⟩
  · have hj := judge_judged n s
    exact ⟨hj.reacted, hj.mode, hj.pto, fun m hm => hj.entries m hm, judge_cases n s⟩
  · intro item built line speed invalid sensors sources source modes actions
    have hmodes := entryModes_code s n
    have hactions := entryActions_code s n
    have hlatches := entryLatches_eq s n
    have hdelay := entryDelay_eq s n
    have hsource : sourcePresent s n = source := by
      by_cases hn : n.val < 16
      · exact (sourcePresent_built s n hn).trans (if_pos (decide_eq_true hn)).symm
      · exact (sourcePresent_configurable s n (by omega)).trans (if_neg (by simpa [built] using hn)).symm
    have hi : ∀ k, item + k = 256 + k + 5 * (n.val - 16) := fun k => by simp only [item]; omega
    have heff : effective s n = (sourcePresent s n && (entryModes s n).code.testBit s.ilk.mode.code) := by
      rw [effective, modeSet_has]
    have hcode : (entryModes s n).code = modes := by
      rw [hmodes]
      simp only [modes, built, decide_eq_true_eq, hi]
    refine ⟨hcode, ?_, ?_, ?_, by rw [heff, hsource, hcode]⟩
    · rw [hactions]
      simp only [actions, built, decide_eq_true_eq, hi]
    · rw [hlatches]
      simp only [built, decide_eq_true_eq, hi]
    · rw [hdelay]
      simp only [built, decide_eq_true_eq, hi]

end Sys2Proof.Machine
end

section
/-! PROOF. The PTO controller's answer to a join notice (R44, R59, R62, R64 to R67), at the end of the command that gives it. -/

namespace Sys2Proof.Machine

/-! ## Entries into RELEASING -/

/-- Two entries into stages of RELEASING are one. -/
theorem Entered.restaged {s t u : State} {first after : Pto} (h : Entered s first t) (k : Entered t after u)
    (hf : first.state = .releasing) (ha : after.state = .releasing) : Entered s after u := by
  have hp : t.pto.state = .releasing := by rw [h.pto, hf]
  exact
    { reacted := h.reacted.trans k.reacted
      pto := k.pto
      hold := k.hold.trans h.hold
      lines := fun m hm => (k.lines m hm).trans (h.lines m hm)
      notices := by
        obtain ⟨new1, e1, j1⟩ := h.notices
        obtain ⟨new2, e2, j2⟩ := k.notices
        refine ⟨new1 ++ new2, by rw [e2, e1, List.append_assoc], fun x hx => ?_⟩
        obtain hx | hx := List.mem_append.1 hx
        · exact j1 x hx
        · exact (j2 x hx).of_reacted h.reacted h.stop
      stop := fun h0 => k.stop (h.stop h0)
      sol := fun h0 => k.sol (h.sol h0)
      told := k.told
      gov := fun hg => by
        have hgt := h.gov hg
        have ht : t.gov.state ≠ .off := by
          rw [hgt, hf]
          split
          · exact hg.2 (.inr (Eq.symm ‹_›))
          · simp
        rw [k.gov ⟨fun _ => .inr hp, fun _ => ht⟩, hp, ha, if_pos rfl, hgt, hf]
      mode := fun hr => by
        have hm : t.ilk.mode = s.ilk.mode := by rw [h.mode hr, if_pos (.inr hf)]
        rw [k.mode (by rwa [hm]), if_pos (.inr ha), if_pos (.inr ha), hm]
      arrival := fun _ _ he => by cases ha.symm.trans he }

theorem ptoReleased_state (s : State) : (ptoReleased s).state = .releasing ∨ (ptoReleased s).state = .disengaged := by
  unfold ptoReleased
  split
  · exact .inl rfl
  · exact ptoDropped_state s

/-- PTO_SOL's command is the same in ENGAGING, ENGAGED and SPIN_DOWN (R56), so that a release leaves it on. -/
theorem enterSpinDown_entered {s : State} (h : s.pto.state = .engaging ∨ s.pto.state = .engaged) :
    Entered s (ptoReleased s) (enterSpinDown s) := by
  have hne : s.pto.state ≠ .disengaged := by obtain h | h := h <;> rw [h] <;> decide
  have hp : Poised s _ (s.modPto fun p => { p.noTimers with
      state := .releasing, stage := some .spinDown, reason := none, abandon := none, slip := false
      stageTimer := some (ms (s.cfgN 77)) }) := .of_modPto _ s (by obtain h | h := h <;> simp [solenoidWanted, h])
  have hs := hp.entered (ptoPublish_published _ _) (.inr (.inl rfl))
  unfold enterSpinDown ptoReleased
  dsimp only
  generalize ptoPublish s.pto.state _ = t at hs
  have hrate : t.pulse.eng.rate = s.pulse.eng.rate := (congrArg (fun p : Pulse => p.eng.rate) hs.reacted.pulse :)
  have hlimit : t.cfgN 78 = s.cfgN 78 := by rw [State.cfgN, hs.reacted.store]; rfl
  rw [hrate, hlimit]
  by_cases hr : s.pulse.eng.rate ≤ s.cfgN 78
  · rw [if_pos hr, if_neg (Nat.not_lt.2 hr)]
    have hd : Entered t (ptoDropped t) (enterDrop t) := enterDrop_entered (by rw [hs.pto]; nofun)
    have he : ptoDropped t = ptoDropped s := ptoDropped_congr (by rw [hs.reacted.disc]) hs.reacted.store
    rw [he] at hd
    obtain ha | ha := ptoDropped_state s
    · exact hs.restaged hd rfl ha
    · exact hs.trans hd rfl ha hne
  · rw [if_neg hr, if_pos (Nat.lt_of_not_le hr)]
    exact hs

/-! ## The answer at the end of the command -/

/-- An entry into RELEASING or DISENGAGED, with notices that move the governor alone, is an answer. -/
theorem Entered.answered_idled {s t u : State} {after : Pto} (h : Entered s after t) (hg : GovernorStateLaw s)
    (ha : after.state = .releasing ∨ after.state = .disengaged) (hi : Idled (t.modIlk fun i => { i with notices := [] }) u) :
    PtoAnswered s after u := by
  have hne : after.state ≠ .engaged := by obtain ha | ha := ha <;> rw [ha] <;> decide
  refine ⟨hi.pto.trans h.pto, fun _ => hi.reports _ _ (by simp) h.told, fun hsol => ?_, fun hst => ?_, fun hr => ?_,
    fun he => absurd he hne⟩
  · rw [SolenoidLaw, hi.out, solenoidWanted, hi.pto]
    exact h.sol hsol
  · have hgov := h.gov hg
    rw [if_neg hst] at hgov
    obtain hs | ⟨hs, hoff⟩ := hi.state
    · exact hs.trans hgov
    · split at hgov
      · rw [hs, if_pos ‹_›]
      · exact absurd hgov hoff
  · rw [hi.ilk]
    exact h.mode hr

/-- An answer to a state that reads as another does is an answer to it. -/
theorem PtoAnswered.of_same {s u t : State} {after : Pto} (h : PtoAnswered u after t) (hp : u.pto = s.pto)
    (hm : u.ilk.mode = s.ilk.mode) (hd : u.disc = s.disc) (hst : u.store = s.store)
    (hl : u.out.lines[ptoSol] = s.out.lines[ptoSol]) : PtoAnswered s after t := by
  have hsh : u.shadow = s.shadow := by simp only [State.shadow, State.cfg, hst]
  obtain ⟨h1, h2, h3, h4, h5, h6⟩ := h
  rw [hp] at h2 h4 h5 h6
  rw [hm, hd] at h5
  rw [hsh] at h6
  refine ⟨h1, h2, fun hs => h3 ?_, h4, h5, h6⟩
  rw [SolenoidLaw, hl, solenoidWanted, hp]
  exact hs

end Sys2Proof.Machine
end

section
/-! PROOF. The reads of the active list, of an entry and of a setting (R52, R163, R164, R168). -/

namespace Sys2Proof.Machine

/-! ## What the part that has heard a frame keeps -/

@[simp] theorem heard_ctl (h : Header) (s : State) : (heard h s).ctl = s.ctl := by rw [heard_reacted_fields]
@[simp] theorem heard_pulse (h : Header) (s : State) : (heard h s).pulse = s.pulse := by rw [heard_reacted_fields]
@[simp] theorem heard_road (h : Header) (s : State) : (heard h s).road = s.road := by rw [heard_reacted_fields]
@[simp] theorem heard_disc (h : Header) (s : State) : (heard h s).disc = s.disc := by rw [heard_reacted_fields]
@[simp] theorem heard_ilk (h : Header) (s : State) : (heard h s).ilk = s.ilk := by rw [heard_reacted_fields]
@[simp] theorem heard_pto (h : Header) (s : State) : (heard h s).pto = s.pto := by rw [heard_reacted_fields]
@[simp] theorem heard_gov (h : Header) (s : State) : (heard h s).gov = s.gov := by rw [heard_reacted_fields]
@[simp] theorem heard_pwm (h : Header) (s : State) : (heard h s).pwm = s.pwm := by rw [heard_reacted_fields]
@[simp] theorem heard_tank (h : Header) (s : State) : (heard h s).tank = s.tank := by rw [heard_reacted_fields]
@[simp] theorem heard_out (h : Header) (s : State) : (heard h s).out = s.out := by rw [heard_reacted_fields]
@[simp] theorem heard_store (h : Header) (s : State) : (heard h s).store = s.store := by rw [heard_reacted_fields]

/-! ## Reads -/

/-- A request whose body leaves the part alone is served alike whether it reads or commands: the broadcast read that
is ignored would have had no reply and no effect (R155). -/
theorem serve_read_eq {h : Header} {s : State} {kind : Nat} {body : Body} {rep : Answer}
    (hr : Receives h s) (hb : body (stationOf h.port h.origin) h.port (heard h s) = (heard h s, rep)) :
    serve h kind true body s = serve h kind false body s := by
  have heq := heard_eq hr
  unfold serve handFrame
  split
  · dsimp only
    rw [heq, hb, Bool.and_true, Bool.and_false]
    cases h.bcast <;> rfl
  · rfl

/-- A read answers from the part as it has heard the frame, and nothing else moves. -/
theorem serve_reads {h : Header} {s : State} {kind : Nat} {body : Body} {r : Result} {d : List Byte}
    (hr : Receives h s) (hb : body (stationOf h.port h.origin) h.port (heard h s) = (heard h s, ⟨r, d, []⟩)) :
    serve h kind true body s = answered h kind r d (heard h s) := by
  have h0 : (heard h s).ilk.notices = [] := by
    rw [heard_ilk]
    exact hr.2.2.2
  have hs := settle_of_no_notice _ h0
  have := serve_answered (kind := kind) hr hb (by rw [hs]; exact heard_reply h s)
  rw [serve_read_eq hr hb, this, hs]

/-- The data of Read Lockouts are those of the list, character by character (R163). -/
theorem lockoutsData_eq (s : State) : lockoutsData s = (s.ilk.active.take 20).mapIdx fun i m =>
    entryChar s (decide (20 < s.ilk.active.length) && decide (i < 6) && s.ilk.active.length.testBit (5 - i)) m :=
  by
  rw [List.mapIdx_eq_zipIdx_map]
  rfl

/-- A byte below 32 names the entry of its number. -/
theorem bodyReadEntry_of_entry (e : Fin 32) (st : Station) (p : Port) (s : State) :
    bodyReadEntry (byte e.val) st p s = (s, .withData (entryData s e)) := by
  have hv : (byte e.val).toNat = e.val := by
    rw [byte, BitVec.toNat_ofNat]
    omega
  have he : (⟨(byte e.val).toNat, by omega⟩ : Fin 32) = e := Fin.ext hv
  rw [bodyReadEntry, dif_pos (by omega), he]

/-- The position of an entry is its place in the list (R52). -/
theorem listPosition_eq (s : State) (n : Fin 32) :
    listPosition s n = if n ∈ s.ilk.active then s.ilk.active.idxOf n + 1 else 0 := by
  unfold listPosition
  simp only [List.contains_iff_mem]

/-- The source character of an entry's record (R164). -/
theorem byte_entrySource (s : State) (e : Fin 32) :
    byte (if e.val < 16 then 255 else entrySource s e) =
      if e.val < 16 then 255 else byte (s.cfgN (256 + 5 * (e.val - 16))) := by
  split
  · rfl
  · exact congrArg byte (configurable_fields s (by omega)).2.2.2

/-- What the part heard is in its arbiter and its links alone: no read of the lockouts or of the table sees it. -/
theorem entryData_heard (h : Header) (s : State) (e : Fin 32) : entryData (heard h s) e = entryData s e := by
  rw [heard_reacted_fields]
  rfl

theorem lockoutsData_heard (h : Header) (s : State) : lockoutsData (heard h s) = lockoutsData s := by
  rw [heard_reacted_fields]
  rfl

/-- Settles O56: each read's body answers from the part as it has heard the frame, whose entries and settings are
those it had. -/
theorem lockoutsAndSettingsAreRead : Obligations.LockoutsAndSettingsAreRead := by
  intro h n e item s hr
  refine ⟨?_, ?_, fun hn => ?_, fun hi => ?_, fun hi => ?_⟩
  · refine congrArg Host.Outcome.next ?_
    rw [serve_reads hr rfl, lockoutsData_heard, lockoutsData_eq]
    rfl
  · rintro rfl
    refine congrArg Host.Outcome.next ?_
    rw [serve_reads hr (bodyReadEntry_of_entry e _ _ _), entryData_heard, entryData, byte_entrySource, listPosition_eq]
    rfl
  · refine congrArg Host.Outcome.next (serve_reads hr ?_)
    exact dif_neg (by omega)
  · obtain ⟨r, hr'⟩ := Option.isSome_iff_exists.1 (mem_itemNumbers.1 hi)
    refine congrArg Host.Outcome.next (serve_reads hr ?_)
    rw [bodyReadSetting, hr', heard_store]
    rfl
  · rw [mem_itemNumbers, Option.not_isSome_iff_eq_none] at hi
    refine congrArg Host.Outcome.next (serve_reads hr ?_)
    rw [bodyReadSetting, hi]
    rfl

end Sys2Proof.Machine
end

section
/-! PROOF. The alarm's cadence and Silence Alarm (R48, R51). -/

namespace Sys2Proof.Machine

/-- A request whose body reacts and gives no join notice is answered by the part as its body leaves it. -/
theorem serve_answered_still {h : Header} {s t : State} {kind : Nat} {body : Body} {r : Result} {d : List Byte}
    (hr : Receives h s) (hb : body (stationOf h.port h.origin) h.port (heard h s) = (t, ⟨r, d, []⟩))
    (ht : Reacted (heard h s) t) (h0 : t.ilk.notices = []) :
    serve h kind false body s = answered h kind r d t := by
  have hs := settle_of_no_notice t h0
  have := serve_answered (kind := kind) hr hb (by rw [hs, (ht.port h.port).reply, heard_reply])
  rwa [hs] at this

/-! ## Silencing the listed entries -/

/-- Silencing moves the silenced flags and places reports, and no more. -/
theorem silence_frame (n : Fin 32) (s : State) : silence n s =
    { s with ilk := { s.ilk with entries := (silence n s).ilk.entries }, links := (silence n s).links } := by
  obtain h | h := silence_cases n s
  · rw [h]
  · rw [h]
    rfl

theorem silence_entry (n m : Fin 32) (s : State) : (silence n s).ilk.entries[m] =
    { s.ilk.entries[m] with silenced := s.ilk.entries[m].silenced || decide (m = n) } := by
  unfold silence
  split
  · rename_i hs
    by_cases hm : m = n
    · subst hm
      simp [← hs]
    · simp [hm]
  · by_cases hm : m = n
    · subst hm
      exact (State.modEntry_entry_self s m fun e => { e with silenced := true }).trans (by simp)
    · exact (State.modEntry_entry_other s hm fun e => { e with silenced := true }).trans (by simp [hm])

/-- A report under the key of an entry that is silenced already stands. -/
theorem silence_keeps_reported {n m : Fin 32} {s : State} {r : Record} (hm : s.ilk.entries[m].silenced = true)
    (h : Reported (.lockout m) r s) : Reported (.lockout m) r (silence n s) := by
  unfold silence
  split
  · exact h
  · rename_i hn
    refine raise_keepsReports (.lockout n) (s.modEntry n _) _ _ (fun he => ?_) h
    cases he
    exact hn hm

theorem silence_reported {n : Fin 32} {s : State} (hn : s.ilk.entries[n].silenced = false) :
    Reported (.lockout n) ⟨byte s.ilk.entries[n].state.code, 0, 1⟩ (silence n s) := by
  have hself := State.modEntry_entry_self s n fun e => { e with silenced := true }
  have h := raise_reported (.lockout n) (s.modEntry n fun e => { e with silenced := true })
  rw [recordOf, hself] at h
  unfold silence
  rw [if_neg (by rw [hn]; exact Bool.false_ne_true)]
  exact h

/-- The part with the entries of a list silenced, in the list's order. -/
def silenceAll (l : List (Fin 32)) (s : State) : State := l.foldl (fun s n => silence n s) s

theorem silenceAll_frame (l : List (Fin 32)) (s : State) : silenceAll l s =
    { s with ilk := { s.ilk with entries := (silenceAll l s).ilk.entries }, links := (silenceAll l s).links } := by
  induction l generalizing s with
  | nil => rfl
  | cons n l ih =>
    have h1 : silenceAll (n :: l) s = silenceAll l (silence n s) := rfl
    have h2 := silence_frame n s
    rw [h1, ih]
    generalize silenceAll l (silence n s) = u
    rw [h2]

theorem silenceAll_entry (l : List (Fin 32)) (s : State) (m : Fin 32) : (silenceAll l s).ilk.entries[m] =
    { s.ilk.entries[m] with silenced := s.ilk.entries[m].silenced || decide (m ∈ l) } := by
  induction l generalizing s with
  | nil => simp [silenceAll]
  | cons n l ih =>
    have h1 : silenceAll (n :: l) s = silenceAll l (silence n s) := rfl
    rw [h1, ih, silence_entry]
    simp [Bool.or_assoc]

theorem silenceAll_keeps_reported {l : List (Fin 32)} {m : Fin 32} {s : State} {r : Record}
    (hm : s.ilk.entries[m].silenced = true) (h : Reported (.lockout m) r s) :
    Reported (.lockout m) r (silenceAll l s) := by
  induction l generalizing s with
  | nil => exact h
  | cons n l ih =>
    have hs := silence_entry n m s
    exact ih (by rw [hs, hm]; rfl) (silence_keeps_reported hm h)

/-- Each entry of the list whose flag was clear is reported (R45, R48). -/
theorem silenceAll_reported {l : List (Fin 32)} {m : Fin 32} {s : State} (hl : m ∈ l)
    (hm : s.ilk.entries[m].silenced = false) :
    Reported (.lockout m) ⟨byte s.ilk.entries[m].state.code, 0, 1⟩ (silenceAll l s) := by
  induction l generalizing s with
  | nil => exact absurd hl List.not_mem_nil
  | cons n l ih =>
    have hs := silence_entry n m s
    by_cases hmn : m = n
    · subst hmn
      exact silenceAll_keeps_reported (s := silence m s) (by rw [hs]; simp) (silence_reported hm)
    · have := ih ((List.mem_cons.1 hl).resolve_left hmn) (s := silence n s) (by rw [hs, hm]; simp [hmn])
      rwa [hs] at this

/-- Once every listed entry that carries ALARM is silenced, nothing sounds. -/
theorem silenceAll_not_sounding (s : State) :
    sounding (silenceAll (s.ilk.active.filter fun n => (entryActions s n).alarm) s) = false := by
  have hf := silenceAll_frame (s.ilk.active.filter fun n => (entryActions s n).alarm) s
  have he := silenceAll_entry (s.ilk.active.filter fun n => (entryActions s n).alarm) s
  generalize silenceAll _ s = t at hf he ⊢
  have hlive : t.store.live = s.store.live := by rw [hf]
  have hact : t.ilk.active = s.ilk.active := by rw [hf]
  unfold sounding
  rw [hact, List.any_eq_false]
  intro n hn
  rw [entryActions_of_live hlive, he]
  cases ha : (entryActions s n).alarm
  · simp
  · simp [hn, ha]

/-- Where nothing sounds, the judgment stops the cadence and turns the horn off (R51). -/
theorem alarmJudge_silent {s : State} (h : sounding s = false) :
    LineOnly alarmLine (s.modIlk fun k => { k with cadence := none }) (alarmJudge s) ∧
    (s.ilk.cadence ≠ none → (alarmJudge s).out.lines[alarmLine].commanded = false) := by
  unfold alarmJudge
  rw [h]
  cases hc : s.ilk.cadence
  · have hs : s.modIlk (fun k => { k with cadence := none }) = s := by
      unfold State.modIlk
      rw [← hc]
    exact ⟨by rw [hs]; exact .refl _ s, fun hn => absurd rfl hn⟩
  · exact ⟨command_lineOnly _ _ _, fun _ => command_commanded _ _ _⟩

/-- The listed entries that carry ALARM. -/
def sounders (s : State) : List (Fin 32) := s.ilk.active.filter fun n => (entryActions s n).alarm

/-- What Silence Alarm makes of the part (R48). -/
def alarmSilenced (s : State) : State := alarmJudge (silenceAll (sounders s) s)

/-- The alarm silenced: the horn's line and the cadence stop, the flags are set, and nothing else moves. -/
theorem alarmSilenced_eq (s : State) : LineOnly alarmLine
    { s with
      ilk := { s.ilk with entries := (silenceAll (sounders s) s).ilk.entries, cadence := none }
      links := (silenceAll (sounders s) s).links } (alarmSilenced s) := by
  have hl := (alarmJudge_silent (silenceAll_not_sounding s)).1
  have hf := silenceAll_frame (sounders s) s
  unfold alarmSilenced
  have hu : { s with
      ilk := { s.ilk with entries := (silenceAll (sounders s) s).ilk.entries, cadence := none }
      links := (silenceAll (sounders s) s).links } =
        (silenceAll (sounders s) s).modIlk fun k => { k with cadence := none } := by
    generalize silenceAll (sounders s) s = u at hf ⊢
    rw [hf]
    rfl
  rw [hu]
  exact hl

theorem alarmSilenced_horn {s : State} (h : s.ilk.cadence ≠ none) :
    (alarmSilenced s).out.lines[alarmLine].commanded = false := by
  refine (alarmJudge_silent (silenceAll_not_sounding s)).2 ?_
  have hf : (silenceAll (sounders s) s).ilk.cadence = s.ilk.cadence := by rw [silenceAll_frame]
  exact hf ▸ h

theorem alarmSilenced_reacted (s : State) : Reacted s (alarmSilenced s) := by
  have hs : ∀ (u : State) (n : Fin 32), Reacted u (silence n u) := fun u n => by
    obtain h | h := silence_cases n u <;> rw [h]
    · exact .refl u
    · exact (Reacted.modEntry n _ u).trans (raise_reacted _ _)
  exact (Reacted.foldl (fun s n => silence n s) hs (sounders s) s).trans (alarmJudge_reacted _)

theorem alarmSilenced_reported {n : Fin 32} {s : State} (hl : n ∈ sounders s)
    (hn : s.ilk.entries[n].silenced = false) :
    Reported (.lockout n) ⟨byte s.ilk.entries[n].state.code, 0, 1⟩ (alarmSilenced s) := by
  have h := silenceAll_reported hl hn
  rwa [Reported, (alarmSilenced_eq s).links]

/-- Settles O29: the cadence's expiry commands its line alone; Silence Alarm silences the listed entries that carry
ALARM, after which nothing sounds. -/
theorem alarmSoundsUntilSilenced : Obligations.AlarmSoundsUntilSilenced := by
  refine ⟨fun s => ?_, fun h s hr => ?_⟩
  · split
    · rename_i hc
      exact (if_pos (by rw [hc]; rfl) : execCadenceTimerExpiry s = .next s)
    · rename_i hc
      have hl : LineOnly alarmLine (s.modIlk fun k => { k with cadence := some (ms 500) }) (cadenceTurned s) :=
        command_lineOnly _ _ _
      refine ⟨cadenceTurned s, (if_neg (by simpa using hc) : execCadenceTimerExpiry s = .next (cadenceTurned s)),
        (Reacted.modIlk _ s).trans (.of_lineOnly hl), hl.ilk, hl.pto, hl.gov, hl.tank, hl.auth, hl.links, hl.hold,
        command_commanded _ _ _, fun m hm => hl.other hm⟩
  · intro sounds
    have hacts : ∀ n, entryActions (heard h s) n = entryActions s n := fun n =>
      entryActions_of_live (by rw [heard_store]) n
    have hsounds : ∀ n, sounds n = decide (n ∈ sounders (heard h s)) := fun n => by
      simp only [sounds, sounders, hacts, heard_ilk, List.mem_filter, Bool.decide_and, Bool.decide_eq_true]
    have hl := alarmSilenced_eq (heard h s)
    have htilk := hl.ilk
    have hreact := alarmSilenced_reacted (heard h s)
    refine ⟨alarmSilenced (heard h s), congrArg Host.Outcome.next (serve_answered_still hr rfl hreact ?_), hreact,
      ?_, ?_, hl.pto.trans ?_, hl.gov.trans ?_, hl.tank.trans ?_, hl.auth, fun n => ?_, fun n hn hs => ?_, ?_,
      fun hc => alarmSilenced_horn (by rwa [heard_ilk]), fun m hm => (hl.other hm).trans ?_⟩
    · rw [htilk, ← hr.2.2.2, heard_ilk]
    · rw [htilk, heard_ilk]
    · rw [htilk, heard_ilk]
    · exact heard_pto h s
    · exact heard_gov h s
    · exact heard_tank h s
    · have he := silenceAll_entry (sounders (heard h s)) (heard h s) n
      rw [htilk, hsounds, ← heard_ilk h s]
      exact he
    · rw [← heard_ilk h s] at hs ⊢
      exact alarmSilenced_reported (by simpa [hsounds] using hn) hs
    · rw [htilk]
    · exact congrArg (·.lines[m]) (heard_out h s)

end Sys2Proof.Machine
end

section
/-! PROOF. The two ends of QUALIFY (R58, R60, R61). -/

namespace Sys2Proof.Machine

/-! ## A publication of ENGAGING -/

theorem reconJudge_pulse (arrival : Bool) (s : State) : (reconJudge arrival s).pulse = s.pulse := by
  unfold reconJudge
  split <;> rfl

theorem primerEnd_pulse (o : PrimerOutcome) (s : State) : (primerEnd o s).pulse = s.pulse := by
  unfold primerEnd
  split
  · rw [raise_pulse, (command_lineOnly primerLine false _).pulse]
    rfl
  · rfl

theorem tankOnPto_pulse (prev : PtoState) (s : State) : (tankOnPto prev s).pulse = s.pulse := by
  unfold tankOnPto
  dsimp only
  rw [reconJudge_pulse]
  split
  · rfl
  · rw [primerEnd_pulse, (command_lineOnly foamEn false s).pulse]

theorem eq_of_mem_noticeOf {n : Fin 32} {s : State} {x : Notice} (h : x ∈ noticeOf n s) : x = ⟨n, entryActions s n⟩ := by
  unfold noticeOf at h
  split at h
  · exact List.mem_singleton.1 h
  · cases h

/-- In ENGAGING the publication joins entry 3 at most, which carries no PTO action: entry 1 has no source, and entry 2
has a delay (R34). -/
theorem judgePto_notices {s : State} (he : s.pto.state = .engaging) :
    ∃ new, (judge 3 (judge 2 (judge 1 s))).ilk.notices = s.ilk.notices ++ new ∧
      ∀ x ∈ new, x.actions.inhibitPto = false ∧ x.actions.releasePto = false := by
  have h1 : joinsAt 1 s = false := by
    have : sourcePresent s 1 = false := by
      change (s.pto.state == PtoState.fault) = false
      rw [he]
      rfl
    simp [joinsAt, effective, this]
  have h2 : ∀ u, joinsAt 2 u = false := fun u => by
    have : entryDelay u 2 = 500 := rfl
    simp [joinsAt, this]
  refine ⟨if joinsAt 3 (judge 2 (judge 1 s)) then noticeOf 3 (judge 2 (judge 1 s)) else [], ?_, fun x hx => ?_⟩
  · rw [judge_notices, judge_notices 2, h2, judge_notices 1, h1]
    simp
  · split at hx
    · rw [eq_of_mem_noticeOf hx]
      exact ⟨rfl, rfl⟩
    · cases hx

/-- A publication of ENGAGING that moves no mode leaves both counters (R8, R27). -/
theorem ptoPublish_engaging {prev : PtoState} {s : State} (he : s.pto.state = .engaging)
    (hm : modeAfter prev s = s.ilk.mode) :
    (ptoPublish prev s).road = s.road ∧ (ptoPublish prev s).pulse = s.pulse ∧
      ∃ new, (ptoPublish prev s).ilk.notices = s.ilk.notices ++ new ∧
        ∀ x ∈ new, x.actions.inhibitPto = false ∧ x.actions.releasePto = false := by
  have hmode : (if s.pto.state = prev then raise .pto s else moveMode (ptoMode (raise .pto s)) (raise .pto s)) =
      raise .pto s := by
    split
    · rfl
    · rename_i hp
      have : ptoMode (raise .pto s) = (raise .pto s).ilk.mode := by
        rw [modeAfter, if_neg hp] at hm
        exact hm
      rw [moveMode, if_pos this]
  have hi : interlockOnPto prev (raise .pto s) = judge 3 (judge 2 (judge 1 (raise .pto s))) :=
    (interlockOnPto_eq prev _).trans (congrArg (fun u => judge 3 (judge 2 (judge 1 u))) hmode)
  have hj := judgePto_judged (raise .pto s)
  have hn := judgePto_notices (s := raise .pto s) he
  have hg : ∀ u : State, u.pto.state = .engaging → governorOnPto prev u = u := fun u hu => by
    simp only [governorOnPto, hu]
  unfold ptoPublish
  dsimp only
  rw [hi]
  generalize judge 3 (judge 2 (judge 1 (raise .pto s))) = t at hj hn
  rw [hg t (by rw [hj.pto]; exact he)]
  have hready := pumpReadyJudge_lineOnly t
  refine ⟨?_, ?_, ?_⟩
  · rw [(arbiterOnPto_downstream _).road, (pulseOnPto_downstream _ _).road, (tankOnPto_downstream _ _).road,
      hready.road, hj.road]
    rfl
  · have hne : (tankOnPto prev (pumpReadyJudge t)).pto.state ≠ .engaged := by
      rw [(tankOnPto_downstream _ _).pto, hready.pto, hj.pto]
      exact fun h => by cases he.symm.trans h
    rw [arbiterOnPto_pulse, pulseOnPto, if_neg fun h => hne h.1, tankOnPto_pulse, hready.pulse, hj.pulse]
    rfl
  · rw [(arbiterOnPto_downstream _).ilk, (pulseOnPto_downstream _ _).ilk, (tankOnPto_downstream _ _).ilk, hready.ilk]
    exact hn

/-! ## The ends -/

theorem enterDisengaged_solenoid (cause : Option AbandonCause) (s : State) :
    (enterDisengaged cause s).out.lines[ptoSol].commanded = false := by
  unfold enterDisengaged
  rw [(ptoPublish_published _ _).lines ptoSol (.inl rfl)]
  exact command_commanded _ _ _

theorem enterEngaged_solenoid {s : State} : (enterEngaged s).out.lines[ptoSol] = s.out.lines[ptoSol] := by
  unfold enterEngaged
  rw [(ptoPublish_published _ _).lines ptoSol (.inl rfl)]
  rfl

/-- ENGAGING entered, before its publication (R58). -/
def engagingPoised (s : State) : State :=
  command ptoSol true (s.modPto fun p => { p.noTimers with
    state := .engaging, stage := none, reason := none, abandon := none
    confirm := some (ms (s.cfgN 73)) })

/-- ENGAGING entered and published, before confirmation is judged (R58). -/
def engagingBegun (s : State) : State := ptoPublish s.pto.state (engagingPoised s)

theorem enterEngaging_eq (s : State) : enterEngaging s = judgeConfirm (engagingBegun s) := rfl

theorem engagingPoised_poised {s : State} (hs : s.pto.slip = false) : Poised s (ptoEngaging s) (engagingPoised s) := by
  have h := Poised.of_command (fun p => { p.noTimers with
    state := .engaging, stage := none, reason := none, abandon := none, confirm := some (ms (s.cfgN 73)) }) s rfl
  have he : ptoEngaging s = { s.pto.noTimers with
      state := .engaging, stage := none, reason := none, abandon := none, confirm := some (ms (s.cfgN 73)) } := by
    simp only [Pto.noTimers, ptoEngaging, hs]
  rw [he]
  exact h

/-- What the entry into ENGAGING from QUALIFY makes of the part (R58). -/
structure EngagingBegun (s t : State) : Prop where
  reacted : Reacted s t
  pto : t.pto = ptoEngaging s
  notices : ∃ new, t.ilk.notices = s.ilk.notices ++ new ∧ 
    ∀ x ∈ new, Joined (fun _ => True) s x ∧ x.actions.inhibitPto = false ∧ x.actions.releasePto = false
  stop : NoStop s → NoStop t
  solenoid : t.out.lines[ptoSol].commanded = true
  told : Reported .pto (ptoRecord (ptoEngaging s)) t
  mode : t.ilk.mode = .parked
  road : t.road = s.road
  pulse : t.pulse = s.pulse
  gov : t.gov.state = s.gov.state

theorem engagingBegun_begun {s : State} (hp : PtoLaw s) (hs : s.pto.state = .qualify) (hm : s.ilk.mode = .parked) :
    EngagingBegun s (engagingBegun s) := by
  obtain ⟨-, -, -, -, -, -, -, hslip⟩ := hp
  have hslip : s.pto.slip = false := by
    cases h : s.pto.slip
    · rfl
    · cases hs.symm.trans (hslip h)
  have hpoised := engagingPoised_poised hslip
  have hsol : (engagingPoised s).out.lines[ptoSol].commanded = true := command_commanded _ _ _
  have hur : (engagingPoised s).road = s.road := (command_lineOnly ptoSol true _).road
  have hupl : (engagingPoised s).pulse = s.pulse := (command_lineOnly ptoSol true _).pulse
  unfold engagingBegun
  rw [hs]
  generalize engagingPoised s = u at hpoised hsol hur hupl
  have hup : u.pto = ptoEngaging s := hpoised.pto
  have hpub := ptoPublish_published .qualify u
  have hmode : modeAfter .qualify u = .parked := by
    simp [modeAfter, ptoMode, modeJudged, hup, ptoEngaging, hpoised.ilk, hm]
  obtain ⟨hroad, hpulse, quiet, equiet, hquiet⟩ := ptoPublish_engaging (prev := .qualify) (s := u) (by rw [hup]; rfl)
    (by rw [hmode, hpoised.ilk, hm])
  generalize ptoPublish .qualify u = t at hpub hroad hpulse equiet
  exact
    { reacted := hpoised.reacted.trans hpub.reacted
      pto := hpub.pto.trans hup
      notices := by
        obtain ⟨new, e, j⟩ := hpub.notices
        have hnew : quiet = new := List.append_cancel_left (equiet.symm.trans e)
        exact ⟨new, by rw [e, hpoised.ilk], fun x hx =>
          ⟨(j x hx).of_eq hpoised.reacted hpoised.ilk, hquiet x (hnew ▸ hx)⟩⟩
      stop := fun h0 => hpub.stop (h0.of_eq hpoised.reacted.disc (by rw [hpoised.ilk]))
      solenoid := by rw [hpub.lines ptoSol (.inl rfl)]; exact hsol
      told := by rw [← hup]; exact hpub.told
      mode := hpub.moved.1.trans hmode
      road := hroad.trans hur
      pulse := hpulse.trans hupl
      gov := by rw [hpub.gov, governorAfter, hup, ← hpoised.gov]; rfl }

/-- Confirmation is read from what the entry into ENGAGING leaves (R60). -/
theorem confirmationHolds_of_reacted {s t : State} (h : Reacted s t) : confirmationHolds t = confirmationHolds s := by
  have hr : t.pulse.eng.rate = s.pulse.eng.rate := (congrArg (fun p : Pulse => p.eng.rate) h.pulse :)
  have hp : t.pulse.pump.rate = s.pulse.pump.rate := (congrArg (fun p : Pulse => p.pump.rate) h.pulse :)
  have hc : ∀ i, t.cfgN i = s.cfgN i := fun i => by rw [State.cfgN, h.store]; rfl
  unfold confirmationHolds
  rw [hr, hp, hc, hc, h.disc]

/-- Outside QUALIFY and ENGAGING no notice of a judgment's join reaches the PTO controller. -/
theorem Joined.deaf {N : Fin 32 → Prop} {s : State} {x : Notice} (h : Joined N s x) (hs : NoStop s) (hl : SettingsLaw s)
    {p : Pto} (hq : p.state ≠ .qualify) (he : p.state ≠ .engaging) : Deaf p x := by
  obtain ⟨-, ha, hd, hn⟩ := h
  exact ⟨hn hs, .inr ⟨hq, he, fun _ => ha ▸ hl.not_releasePto (hn hs) hd⟩⟩

/-- Settles O32: the window's expiry enters DISENGAGED; the hold's enters ENGAGING, and ENGAGED in the same command
where confirmation holds at the entry. -/
theorem qualifyEndsAtFirstExpiry : Obligations.QualifyEndsAtFirstExpiry := by
  intro s h0 hp hq hstop hg hset
  obtain ⟨-, -, -, hwin, hhold, -, -, -⟩ := id hp
  refine ⟨fun hw => ?_, fun hw => ?_, fun hw => ?_, fun hw => ?_⟩
  · exact (if_neg (by simp [hw]) : execWindowTimerExpiry s = .next s)
  · exact (if_neg (by simp [hw]) : execHoldTimerExpiry s = .next s)
  · have hqs : s.pto.state = .qualify := hwin.1 (Option.isSome_iff_ne_none.2 hw)
    have hm := hq (.inl hqs)
    have he := enterDisengaged_entered (some (s.pto.failing.getD .notHeld)) s
    have hsol := enterDisengaged_solenoid (some (s.pto.failing.getD .notHeld)) s
    have hexec : execWindowTimerExpiry s = .next (settle (enterDisengaged (some (s.pto.failing.getD .notHeld)) s)) :=
      if_pos ⟨hqs, Option.isSome_iff_ne_none.2 hw⟩
    generalize hc : s.pto.failing.getD .notHeld = c at he hsol hexec ⊢
    generalize enterDisengaged (some c) s = t at he hsol hexec
    have hi := settle_idled (he.deaf hstop.noStop h0 ⟨nofun, nofun⟩ nofun)
    have htp : (settle t).pto = ptoDisengaged (some c) := hi.pto.trans he.pto
    refine ⟨settle t, hexec, he.reacted.trans (settle_reacted t), htp, ?_, ?_, ?_⟩
    · rw [htp]
      exact hi.reports _ _ (by simp) he.told
    · rw [hi.out]
      exact hsol
    · rw [hi.ilk]
      refine (he.mode (by rw [hm]; decide)).trans ?_
      rw [hqs]
      rfl
  · intro threshold confirmed
    have hqs : s.pto.state = .qualify := hhold (Option.isSome_iff_ne_none.2 hw)
    have hb := engagingBegun_begun hp hqs (hq (.inl hqs))
    have hoff : s.gov.state = .off := by
      by_contra hne
      obtain h | h := hg.1 hne <;> cases hqs.symm.trans h
    have hexec : execHoldTimerExpiry s = .next (settle (judgeConfirm (engagingBegun s))) :=
      if_pos ⟨hqs, Option.isSome_iff_ne_none.2 hw⟩
    have hconf : confirmationHolds (engagingBegun s) = confirmed := confirmationHolds_of_reacted hb.reacted
    rw [judgeConfirm_eq, hconf] at hexec
    generalize engagingBegun s = t at hb hexec hconf
    obtain ⟨new, hnew, hjoined⟩ := hb.notices
    rw [h0, List.nil_append] at hnew
    cases hcf : confirmed
    · rw [hcf] at hexec
      have hi := settle_idled (s := t) fun x hx => by
        obtain ⟨hj, hquiet⟩ := hjoined x (hnew ▸ hx)
        exact ⟨hj.2.2.2 hstop.noStop, .inl hquiet⟩
      have htp : (settle t).pto = ptoEngaging s := hi.pto.trans hb.pto
      refine ⟨settle t, hexec, hb.reacted.trans (settle_reacted t), htp, ?_, ?_, fun _ => ⟨?_, ?_, ?_, ?_⟩, nofun⟩
      · rw [htp]
        exact hi.reports _ _ (by simp) hb.told
      · rw [hi.out]
        exact hb.solenoid
      · rw [hi.ilk]
        exact hb.mode
      · rw [hi.road]
        exact congrArg Road.creep hb.road
      · rw [hi.pulse]
        exact congrArg Pulse.flowCount hb.pulse
      · have htg : t.gov.state = .off := hb.gov.trans hoff
        exact hi.state.elim (fun h => h.trans htg) fun h => absurd htg h.2
    · rw [hcf] at hexec
      have hte : t.pto.state = .engaging := by rw [hb.pto]; rfl
      have he := enterEngaged_entered hte
      have hsol := enterEngaged_solenoid (s := t)
      have htg : GovernorStateLaw t := by
        rw [GovernorStateLaw, hb.gov, hte, hoff]
        simp
      have hsh : t.shadow = s.shadow := hb.reacted.shadow
      rw [if_pos rfl] at hexec
      generalize enterEngaged t = u at he hsol hexec
      have hi := settle_idled (s := u) fun x hx => by
        obtain ⟨late, hlate, hj⟩ := he.notices
        rw [hlate, List.mem_append, hnew] at hx
        have hx' : Joined (fun _ => True) s x := hx.elim (fun h => (hjoined x h).1) fun h => (hj x h).of_reacted hb.reacted hb.stop
        exact hx'.deaf hstop.noStop hset (by rw [he.pto]; nofun) (by rw [he.pto]; nofun)
      have hup : (settle u).pto = ptoEngaged := hi.pto.trans he.pto
      obtain ⟨hcreep, hflow, hdemand, hwork, -⟩ := he.arrival htg (by rw [hb.mode]; decide) rfl
      rw [hsh] at hdemand hwork
      have hidle := (hi.idle (atIdle_of_shadow hset hdemand hwork)).1
      have hug : u.gov.state = .idle := by rw [he.gov htg, hte]; rfl
      refine ⟨settle u, hexec, (hb.reacted.trans he.reacted).trans (settle_reacted u), hup, ?_, ?_, nofun,
        fun _ => ⟨?_, ?_, ?_, ?_, ?_⟩⟩
      · rw [hup]
        exact hi.reports _ _ (by simp) he.told
      · rw [hi.out]
        exact (congrArg OutputLine.commanded hsol).trans hb.solenoid
      · rw [hi.ilk]
        refine (he.mode (by rw [hb.mode]; decide)).trans ?_
        rw [hte]
        rfl
      · rw [hi.road]
        exact hcreep
      · rw [hi.pulse]
        exact hflow
      · exact hi.state.elim (fun h => h.trans hug) And.left
      · rw [hidle, hi.work]
        exact congrArg (fun g : UpdateSettings => some g.nidle) hwork

end Sys2Proof.Machine
end

section
/-! PROOF. Enter Roll and Leave Roll (R30, R31). -/

namespace Sys2Proof.Machine

/-! ## D under a judgment of the bounds -/

/-- A judgment of the bounds brings D under Dmax, where the governor is not OFF (R81). -/
theorem rejudgeBounds_demand {s : State} (h : s.gov.state ≠ .off) :
    (rejudgeBounds s).gov.demand = s.gov.demand.map (min · (dmaxOf s)) := by
  unfold rejudgeBounds
  split
  · exact absurd ‹_› h
  · rename_i hd _
    rw [hd]
    rfl
  · rename_i d hd _
    rw [hd]
    dsimp only
    split <;> split <;> rfl

/-- An OFF governor has no bounds to judge. -/
theorem rejudgeBounds_off {s : State} (h : s.gov.state = .off) : rejudgeBounds s = s := by
  unfold rejudgeBounds
  rw [h]

theorem interlockLines_gov (s : State) : (interlockLines s).gov = s.gov :=
  (command_lineOnly thrLimit _ _).gov.trans (command_lineOnly driveEn _ s).gov

theorem alarmJudge_gov (s : State) : (alarmJudge s).gov = s.gov := by
  unfold alarmJudge
  split
  · exact (command_lineOnly alarmLine _ _).gov
  · exact (command_lineOnly alarmLine _ _).gov
  · rfl

theorem listChanged_off (b : ActionSet) {s : State} (h : s.gov.state = .off) : (listChanged b s).gov = s.gov := by
  have hg : (alarmJudge (interlockLines s)).gov = s.gov := (alarmJudge_gov _).trans (interlockLines_gov s)
  unfold listChanged
  dsimp only
  split
  · exact hg
  · rw [rejudgeBounds_off (by rw [hg]; exact h), hg]

theorem relisted_off (n : Fin 32) (e : Entry) (f : List (Fin 32) → List (Fin 32)) (b : ActionSet) {s : State}
    (h : s.gov.state = .off) : (relisted n e f b s).gov = s.gov := by
  unfold relisted
  exact listChanged_off b h

theorem enlisted_off (n : Fin 32) {s : State} (h : s.gov.state = .off) : (enlisted n s).gov = s.gov := relisted_off _ _ _ _ h

theorem delisted_off (n : Fin 32) {s : State} (h : s.gov.state = .off) : (delisted n s).gov = s.gov := relisted_off _ _ _ _ h

/-- A judgment of an entry leaves an OFF governor. -/
theorem judge_off (n : Fin 32) {s : State} (h : s.gov.state = .off) : (judge n s).gov = s.gov := by
  have hjoin : (join n s).gov = s.gov := by
    obtain hj | hj := join_enlisted n s
    · rw [hj, enlisted_off n h]
    · rw [hj, State.modIlk_gov, enlisted_off n h]
  unfold judge
  split
  · split
    · exact hjoin
    · rfl
  · rfl
  · split
    · rfl
    · rw [leave_delisted, if_neg (ne_zero_of_not_latches ‹_›), delisted_off n h]
  · rfl
  · rfl

theorem judgeAll_off {s : State} (h : s.gov.state = .off) : (judgeAll s).gov = s.gov := by
  unfold judgeAll
  exact List.foldlRecOn (motive := fun u : State => u.gov = s.gov) _ _ rfl fun u hu n _ =>
    (judge_off n (by rw [hu]; exact h)).trans hu

/-! ## A change of mode, and the end of its command -/

/-- D stands within the roll cap, in ROLL (R81). -/
structure RollCapped (s : State) : Prop where
  mode : s.ilk.mode = .roll
  idle : s.gov.work.nidle ≤ s.gov.work.rollCap
  cap : ∀ d ∈ s.gov.demand, d ≤ s.gov.work.rollCap

theorem dmaxOf_le_rollCap {s : State} (hm : s.ilk.mode = .roll) (hi : s.gov.work.nidle ≤ s.gov.work.rollCap) :
    dmaxOf s ≤ s.gov.work.rollCap := by
  unfold dmaxOf
  dsimp only
  split
  · exact hi
  · exact min_le_right _ _

/-- A judgment of the bounds in ROLL brings D within the roll cap. -/
theorem rejudgeBounds_rollCapped {s : State} (hm : s.ilk.mode = .roll) (hi : s.gov.work.nidle ≤ s.gov.work.rollCap)
    (ho : s.gov.state = .off → s.gov.demand = none) : RollCapped (rejudgeBounds s) := by
  have hw := (rejudgeBounds_rebounded s).work
  refine ⟨by rw [rejudgeBounds_ilk]; exact hm, by rw [hw]; exact hi, fun d hd => ?_⟩
  by_cases h : s.gov.state = .off
  · rw [rejudgeBounds_off h, ho h] at hd
    cases hd
  · rw [rejudgeBounds_demand h] at hd
    obtain ⟨x, -, rfl⟩ := Option.map_eq_some_iff.1 hd
    rw [hw]
    exact (min_le_right _ _).trans (dmaxOf_le_rollCap hm hi)

theorem RollCapped.governorForceIdle {s : State} (h : RollCapped s) : RollCapped (governorForceIdle s) := by
  unfold Machine.governorForceIdle
  split
  · exact h
  · dsimp only
    split
    · exact rejudgeBounds_rollCapped (s := s.modGov fun g => { g with state := .idle }) h.mode h.idle nofun
    · exact rejudgeBounds_rollCapped (s := raise .governor (s.modGov fun g => { g with state := .idle })) h.mode h.idle nofun

/-- Notices that move the governor alone keep D within the roll cap. -/
theorem RollCapped.settle {s : State} (h : RollCapped s) (hd : ∀ x ∈ s.ilk.notices, Deaf s.pto x) : RollCapped (settle s) := by
  refine (takeNotices_keeps (P := fun u => RollCapped u ∧ u.pto = s.pto ∧ ∀ x ∈ u.ilk.notices, Deaf s.pto x)
    (fun u hu => ⟨⟨hu.1.mode, hu.1.idle, hu.1.cap⟩, hu.2.1, nofun⟩) (fun u x rest hx hu => ?_) _ ⟨h, rfl, hd⟩).1
  obtain ⟨hc, hp, hdeaf⟩ := hu
  rw [hx] at hdeaf
  have hx' : Deaf (u.modIlk fun i => { i with notices := rest }).pto x := hp ▸ hdeaf x List.mem_cons_self
  have hi := takeNotice_idled hx'
  have hc' : RollCapped (u.modIlk fun i => { i with notices := rest }) := ⟨hc.mode, hc.idle, hc.cap⟩
  refine ⟨?_, hi.pto.trans hp, fun y hy => ?_⟩
  · rw [takeNotice_of_deaf hx']
    split
    · exact hc'.governorForceIdle
    · exact hc'
  · rw [hi.ilk] at hy
    exact hdeaf y (List.mem_cons_of_mem x hy)

/-- The mode set, up to its judgment of the bounds. -/
def modeLined (m : Mode) (s : State) : State := raise .mode (interlockLines (judgeAll (modeBegun m s)))

theorem setMode_lined (m : Mode) (s : State) : setMode m s = pumpReadyJudge (rejudgeBounds (modeLined m s)) := rfl

theorem modeLined_interlocked (m : Mode) (s : State) : Interlocked (fun _ => True) s (modeLined m s) :=
  (modeBegun_interlocked m s).trans ((judgeAll_judged _).toInterlocked.trans
    ((interlockLines_judged _).toInterlocked.trans (raiseMode_interlocked _)))

theorem modeLined_mode (m : Mode) (s : State) : (modeLined m s).ilk.mode = m := by
  unfold modeLined
  rw [raise_ilk, interlockLines_ilk, (judgeAll_judged _).mode, modeBegun_ilk]

theorem modeLined_off (m : Mode) {s : State} (h : s.gov.state = .off) : (modeLined m s).gov = s.gov := by
  have hb : (modeBegun m s).gov = s.gov := by
    unfold modeBegun
    split <;> rfl
  unfold modeLined
  rw [raise_gov, interlockLines_gov, judgeAll_off (by rw [hb]; exact h), hb]

/-- ROLL is entered with D within the roll cap (R81). -/
theorem setMode_rollCapped {s : State} (hd : s.gov.state = .off → s.gov.demand = none)
    (hw : s.gov.work.nidle ≤ s.gov.work.rollCap) : RollCapped (setMode .roll s) := by
  have hb := (modeLined_interlocked .roll s).bounds
  have hc := rejudgeBounds_rollCapped (s := modeLined .roll s) (modeLined_mode .roll s) (by rw [hb.work]; exact hw)
    fun h => by rw [modeLined_off _ (hb.state.symm.trans h)]; exact hd (hb.state.symm.trans h)
  have hl := pumpReadyJudge_lineOnly (rejudgeBounds (modeLined .roll s))
  rw [setMode_lined]
  exact ⟨by rw [hl.ilk]; exact hc.mode, by rw [hl.gov]; exact hc.idle, by rw [hl.gov]; exact hc.cap⟩

/-- A change of mode recomputes DRIVE_EN (R49). -/
theorem setMode_drive (m : Mode) (s : State) : (setMode m s).out.lines[driveEn].commanded = permit (setMode m s) := by
  have hready := pumpReadyJudge_lineOnly (rejudgeBounds (modeLined m s))
  have hout : (setMode m s).out.lines[driveEn] = (modeLined m s).out.lines[driveEn] := by
    rw [setMode_lined, hready.other (by decide), (rejudgeBounds_idled _).out]
  have hilk : (setMode m s).ilk = (judgeAll (modeBegun m s)).ilk := by rw [setMode_eq, setMode_tail_ilk]
  have hstore : (setMode m s).store = (judgeAll (modeBegun m s)).store :=
    (setMode_interlocked m s).reacted.store.trans
      ((modeBegun_interlocked (N := fun _ => True) m s).reacted.trans (judgeAll_reacted _)).store.symm
  have hpermit : permit (setMode m s) = permit (judgeAll (modeBegun m s)) :=
    permit_congr (by rw [hilk]) (by rw [hilk]) hstore
  rw [hout, hpermit, modeLined, raise_out, interlockLines_drive]

/-- What a command that changes the mode with the PTO outside QUALIFY and ENGAGING leaves, its notices taken. -/
structure ModeTaken (m : Mode) (s t : State) : Prop where
  reacted : Reacted s t
  mode : t.ilk.mode = m
  told : Reported .mode ⟨byte m.code, 0, 0⟩ t
  pto : t.pto = s.pto
  road : t.road = if m = .pump then { s.road with creep := 0 } else s.road
  pulse : t.pulse = s.pulse
  drive : t.out.lines[driveEn].commanded = permit t

theorem setMode_deaf (m : Mode) {s : State} (h0 : NoticesTaken s) (hs : NoStop s) (hl : SettingsLaw s)
    (hp : s.pto.state = .engaged ∨ s.pto.state = .releasing) :
    ∀ x ∈ (setMode m s).ilk.notices, Deaf (setMode m s).pto x := fun x hx => by
  have hi := setMode_interlocked m s
  obtain ⟨new, e, hj⟩ := hi.notices
  rw [e, h0, List.nil_append] at hx
  rw [hi.pto]
  exact (hj x hx).deaf hs hl (by obtain h | h := hp <;> rw [h] <;> decide) (by obtain h | h := hp <;> rw [h] <;> decide)

theorem setMode_settled (m : Mode) {s : State} (hd : ∀ x ∈ (setMode m s).ilk.notices, Deaf (setMode m s).pto x) :
    ModeTaken m s (settle (setMode m s)) := by
  have hi := settle_idled hd
  have hm := setMode_interlocked m s
  have hdrive := setMode_drive m s
  have hmode := setMode_mode m s
  have htold := setMode_reported m s
  have hroad := setMode_road m s
  generalize setMode m s = u at hi hm hdrive hmode htold hroad
  have hpermit : permit (settle u) = permit u :=
    permit_congr (by rw [hi.ilk]; rfl) (by rw [hi.ilk]; rfl) hi.reacted.store
  exact
    { reacted := hm.reacted.trans (settle_reacted _)
      mode := by rw [hi.ilk]; exact hmode
      told := hi.reports _ _ (by simp) htold
      pto := hi.pto.trans hm.pto
      road := hi.road.trans hroad
      pulse := hi.pulse.trans hm.pulse
      drive := by rw [hi.out, hpermit]; exact hdrive }

/-! ## The requests -/

/-- A request with a body that only reacts is answered by the part once its notices are taken (R44, R152). -/
theorem serve_answered_settled {h : Header} {s t : State} {kind : Nat} {body : Body} {r : Result} {d : List Byte}
    (hr : Receives h s) (hb : body (stationOf h.port h.origin) h.port (heard h s) = (t, ⟨r, d, []⟩))
    (ht : Reacted (heard h s) t) : serve h kind false body s = answered h kind r d (settle t) :=
  serve_answered hr hb (by rw [((ht.trans (settle_reacted t)).port h.port).reply, heard_reply])

/-- The holder and the standstill are those the part had before the frame. -/
theorem heard_holder (h : Header) (s : State) : (heard h s).auth.holder = s.auth.holder := by
  cases hp : h.port <;> simp [heard, hp, State.modPort, State.modLinks, State.modAuth]

theorem permit_roll {s : State} (h : s.ilk.mode = .roll) : permit s = !inForce s (·.inhibitDrive) := by
  unfold permit
  rw [h]
  rfl

theorem permit_pump {s : State} (h : s.ilk.mode = .pump) : permit s = false := by
  unfold permit
  rw [h]
  rfl

/-- An OFF governor has no D (R73). -/
theorem demand_of_off {s : State} (h : DutyLaw s) (ho : s.gov.state = .off) : s.gov.demand = none := by
  by_contra hd
  exact h.1.1 (Option.isSome_iff_ne_none.2 hd) ho

/-- Settles O27: each request is judged in its order, and one that is taken sets the mode. -/
theorem rollIsEnteredAndLeft : Obligations.RollIsEnteredAndLeft := by
  have hstate : ∀ {h : Header} {s : State}, Receives h s → StopTaken s → SettingsLaw s →
      NoticesTaken (heard h s) ∧ NoStop (heard h s) ∧ SettingsLaw (heard h s) := fun {h s} hr hstop hset =>
    ⟨by rw [NoticesTaken, heard_ilk]; exact hr.2.2.2, hstop.noStop.of_eq (heard_disc h s) (by rw [heard_ilk]),
      by rw [SettingsLaw, heard_store]; exact hset⟩
  refine ⟨fun h s hr hstop hset hduty hwork => ?_, fun h s hr hstop hset hmode => ?_⟩
  · intro st
    have hrefuse : ∀ r, bodyEnterRoll st h.port (heard h s) = unchanged (heard h s) r →
        Refuses (.enterRoll h) h 48 r s := fun r hb => congrArg Host.Outcome.next (serve_refuses hr hb)
    have hbody : bodyEnterRoll st h.port (heard h s) =
        if s.auth.holder ≠ some st then unchanged (heard h s) .noAuthority
        else if st ≠ .cab then unchanged (heard h s) .notPermitted
        else if s.ilk.mode = .roll then unchanged (heard h s) .ok
        else if s.ilk.mode ≠ .pump ∨ s.pto.state ≠ .engaged ∨ s.cfg 60 = 0 then unchanged (heard h s) .notPermitted
        else (setMode .roll (heard h s), .bare .ok) := by
      have hcfg : (heard h s).cfg 60 = s.cfg 60 := by rw [State.cfg, heard_store]; rfl
      rw [bodyEnterRoll, heard_holder, heard_ilk, heard_pto, hcfg]
      simp only [ite_or]
    split
    · exact hrefuse _ (by rw [hbody, if_pos ‹_›])
    split
    · exact hrefuse _ (by rw [hbody, if_neg ‹_›, if_pos ‹_›])
    split
    · exact hrefuse _ (by rw [hbody, if_neg ‹_›, if_neg ‹_›, if_pos ‹_›])
    split
    · exact hrefuse _ (by rw [hbody, if_neg ‹_›, if_neg ‹_›, if_neg ‹_›, if_pos ‹_›])
    rename_i hholder hcab hroll hrest
    rw [if_neg hholder, if_neg hcab, if_neg hroll, if_neg hrest] at hbody
    push Not at hrest
    obtain ⟨h0, hstop', hset'⟩ := hstate hr hstop hset
    have hd := setMode_deaf .roll h0 hstop' hset' (.inl (by rw [heard_pto]; exact hrest.2.1))
    have ht := setMode_settled .roll hd
    have hcap := (setMode_rollCapped (s := heard h s) (by rw [heard_gov]; exact demand_of_off hduty)
      (by rw [heard_gov]; exact hwork.2.1)).settle hd
    refine ⟨settle (setMode .roll (heard h s)), congrArg Host.Outcome.next
      (serve_answered_settled hr hbody (setMode_reacted _ _)), ht.reacted, ht.mode, ht.told, ht.pto.trans (heard_pto h s),
      ?_, ?_, hcap.cap, ?_⟩
    · rw [ht.road, if_neg (by decide), heard_road]
    · rw [ht.pulse, heard_pulse]
    · exact ht.drive.trans (permit_roll ht.mode)
  · intro st
    have hbody : bodyLeaveRoll st h.port (heard h s) =
        if st = .service then unchanged (heard h s) .notPermitted
        else if s.ilk.mode ≠ .roll then unchanged (heard h s) .ok
        else if s.road.standstill = false then unchanged (heard h s) .notPermitted
        else (setMode .pump (heard h s), .bare .ok) := by
      rw [bodyLeaveRoll, heard_ilk, heard_road]
      simp only [Bool.not_eq_true']
    have hrefuse : ∀ r, bodyLeaveRoll st h.port (heard h s) = unchanged (heard h s) r →
        Refuses (.leaveRoll h) h 49 r s := fun r hb => congrArg Host.Outcome.next (serve_refuses hr hb)
    split
    · exact hrefuse _ (by rw [hbody, if_pos ‹_›])
    split
    · exact hrefuse _ (by rw [hbody, if_neg ‹_›, if_pos ‹_›])
    split
    · exact hrefuse _ (by rw [hbody, if_neg ‹_›, if_neg ‹_›, if_pos ‹_›])
    rename_i hservice hroll hstill
    rw [if_neg hservice, if_neg hroll, if_neg hstill] at hbody
    obtain ⟨h0, hstop', hset'⟩ := hstate hr hstop hset
    have ht := setMode_settled .pump (setMode_deaf .pump h0 hstop' hset'
      (by rw [heard_pto]; exact hmode (.inr (not_not.1 hroll))))
    refine ⟨settle (setMode .pump (heard h s)), congrArg Host.Outcome.next
      (serve_answered_settled hr hbody (setMode_reacted _ _)), ht.reacted, ht.mode, ht.told, ht.pto.trans (heard_pto h s),
      ?_, ?_, ?_⟩
    · rw [ht.road, if_pos rfl]
    · rw [ht.pulse, heard_pulse]
    · exact ht.drive.trans (permit_pump ht.mode)

end Sys2Proof.Machine
end

section
/-! PROOF. The silence of the holder, and the first frame that ends the lapsed condition (R144, R145). -/

namespace Sys2Proof.Machine

/-! ## Entry 14 -/

/-- A record replaced by what it is made of is the record moved. -/
theorem State.modEntry_congr {n : Fin 32} {f g : Entry → Entry} {s : State} (h : f s.ilk.entries[n] = g s.ilk.entries[n]) :
    s.modEntry n f = s.modEntry n g := by
  unfold State.modEntry State.modIlk
  dsimp only
  rw [h]

theorem State.modEntry_const_self (n : Fin 32) (s : State) : (s.modEntry n fun _ => s.ilk.entries[n]) = s := by
  simp [State.modEntry, State.modIlk]

theorem noticeOf_lapsed (s : State) : noticeOf 14 s = [] := rfl

theorem judge_lapsed_notices {s : State} (h0 : NoticesTaken s) : (judge 14 s).ilk.notices = [] := by
  rw [judge_notices, noticeOf_lapsed, ite_self, List.append_nil]
  exact h0

/-- Entry 14 without its source, as the statement of the first frame has it (R35). -/
def unlapsed (v : State) : State :=
  let e := v.ilk.entries[(14 : Fin 32)]
  let w := v.modEntry 14 fun _ => entryMoved e false 0 true
  if e.state = .active then post (.lockout 14) ⟨3, 0, byte (bit e.silenced)⟩ w else w

theorem judge_unlapsed {v : State} (hl : v.auth.lapsed = false) : judge 14 v = unlapsed v := by
  have heff : effective v 14 = false := by
    have : sourcePresent v 14 = v.auth.lapsed := rfl
    rw [effective, this, hl]
    rfl
  have hlatches : entryLatches v 14 = true := rfl
  obtain ⟨e, he⟩ : ∃ e, v.ilk.entries[(14 : Fin 32)] = e := ⟨_, rfl⟩
  have hself : (v.modEntry 14 fun _ => e) = v := by rw [← he, State.modEntry_const_self]
  unfold judge unlapsed
  rw [heff, hlatches, he]
  cases hs : e.state
  case clear => simp only [entryMoved, hs, hself, reduceCtorEq, if_false]
  case held => simp only [entryMoved, hs, hself, reduceCtorEq, if_false]
  case pending =>
    simp only [entryMoved, hs, reduceCtorEq, if_false]
    exact State.modEntry_congr (by rw [he])
  case active =>
    have hw : (v.modEntry 14 fun e => { e with state := .held }) = v.modEntry 14 fun _ => { e with state := .held } :=
      State.modEntry_congr (by rw [he])
    have hr : recordOf (v.modEntry 14 fun _ => { e with state := .held }) (.lockout 14) = ⟨3, 0, byte (bit e.silenced)⟩ := by
      have := State.modEntry_entry_self v 14 fun _ => { e with state := .held }
      rw [recordOf, this]
      rfl
    simp only [entryMoved, hs, if_true]
    rw [hw, raise, hr]

/-! ## The lapse -/

/-- Whom authority passes to when the holder gives up its right (R143, R145). -/
def passedOn (s : State) : Authority :=
  if s.auth.claimant = none ∨ s.auth.claimant = some .service ∧ s.pto.state ≠ .disengaged then
    ⟨none, none, none, none, s.auth.lapsed⟩
  else ⟨s.auth.claimant, none,
    if s.auth.claimant = some .service then s.auth.servicePort else none, some (ms (s.cfgN 240)), s.auth.lapsed⟩

theorem passOn_eq (s : State) : passOn s = s.modAuth fun _ => passedOn s := by
  unfold passOn passedOn
  cases hc : s.auth.claimant with
  | none => simp [State.modAuth]
  | some c =>
    cases c with
    | panel => simp [State.modAuth, State.silenceTime]
    | cab => simp [State.modAuth, State.silenceTime]
    | service =>
      by_cases hp : s.pto.state = .disengaged
      · simp [State.modAuth, State.silenceTime, hp]
      · simp [State.modAuth, hp]

/-- The holder has lapsed, with the AUTHORITY report, before entry 14 is judged (R145). -/
def lapsedTo (after : Authority) (s : State) : State := raise .authority { s with auth := after }

theorem lapse_eq (s : State) : lapse s = judge 14 (lapsedTo { passedOn s with lapsed := true } s) := by
  unfold lapse
  rw [passOn_eq]
  rfl

/-! ## The first frame of a lapsed holder -/

/-- A request is served with its body. -/
theorem exec_served {c : Instr} {h : Header} {kind : Nat} {payload : List Byte} (hw : wireOf c = some (h, kind, payload)) :
    ∃ (k : Nat) (isRead : Bool) (body : Body), ∀ s, exec c s = .next (serve h k isRead body s) := by
  unfold wireOf at hw
  split at hw
  case h_27 => cases hw
  all_goals
    cases hw
    exact ⟨_, _, _, fun _ => rfl⟩

/-- What the lapse makes of the part (R145). -/
theorem silenceLapses {after : Authority} {s : State} (h0 : NoticesTaken s) (hl : after.lapsed = true)
    (hc : after.claimant = none) :
    let t := judge 14 (lapsedTo after s)
    settle t = t ∧ t.auth = after ∧ Reacted { s with auth := after } t ∧
    Reported .authority ⟨byte (stationCode after.holder), 0, 1⟩ t ∧
    t.ilk.mode = s.ilk.mode ∧ t.pto = s.pto ∧ t.tank = s.tank ∧ t.gov.state = s.gov.state ∧
    t.gov.ps = s.gov.ps ∧ t.gov.ns = s.gov.ns ∧ t.out.hold = s.out.hold ∧
    (∀ m : Fin 10, m ≠ driveEn → m ≠ thrLimit → m ≠ alarmLine → t.out.lines[m] = s.out.lines[m]) ∧
    (s.ilk.mode = .pump ∨ s.ilk.mode = .roll → s.ilk.entries[(14 : Fin 32)].state = .clear →
      EntryStands 14 ⟨.active, none, false⟩ (s.ilk.active ++ [14]) t) := by
  intro t
  have hj : Judged (· = 14) (lapsedTo after s) t := judge_judged 14 _
  have hrep : Reported .authority ⟨byte (stationCode after.holder), 0, 1⟩ (lapsedTo after s) := by
    have h := raise_reported .authority { s with auth := after }
    rw [recordOf, hc, hl] at h
    exact h
  refine ⟨settle_of_no_notice t (judge_lapsed_notices h0), hj.auth, (raise_reacted _ _).trans hj.reacted,
    hj.told _ _ (by simp) hrep,
    hj.mode, hj.pto, hj.tank, hj.bounds.state, hj.bounds.ps, hj.bounds.ns, hj.bounds.hold, fun m h1 h2 h3 => ?_,
    fun hm he => ?_⟩
  · by_cases hp : m = pumpReady
    · subst hp
      exact hj.ready
    · exact hj.lines m h1 h2 h3 hp
  · have heff : effective (lapsedTo after s) 14 = true := by
      have h1 : sourcePresent (lapsedTo after s) 14 = after.lapsed := rfl
      have h2 : (entryModes (lapsedTo after s) 14).has (lapsedTo after s).ilk.mode = pumpRoll.has s.ilk.mode := rfl
      rw [effective, h1, h2, hl]
      obtain hm | hm := hm <;> rw [hm] <;> rfl
    have hjudge := judge_cases 14 (lapsedTo after s)
    dsimp only at hjudge
    have hclear : (lapsedTo after s).ilk.entries[(14 : Fin 32)].state = .clear := he
    have hdelay : entryDelay (lapsedTo after s) 14 = 0 := rfl
    rw [if_pos heff, if_pos hclear, if_pos hdelay] at hjudge
    exact hjudge

/-- The first frame reaches the part (R144, R145): what a lapsed holder's frame makes of the part before its request
is judged, with the port's own events. -/
def relieved (h : Header) (s : State) : State :=
  unlapsed (post .authority ⟨byte (stationCode s.auth.holder), fitHalf (stationCode s.auth.claimant), 0⟩
    { heard h s with auth := { s.auth with silence := some (ms (s.cfgN 240)), lapsed := false } })

/-- The part once a lapsed holder's frame has been assembled and its holder is alive again, before the reports. -/
def alive (h : Header) (s : State) : State :=
  { heard h s with auth := { s.auth with silence := some (ms (s.cfgN 240)), lapsed := false } }

/-- The frame is taken from the port, its holder with it (R144, R154). -/
theorem modPort_heard (h : Header) (s : State) :
    (s.modPort h.port fun p => p.cancelReply.waiting).modAuth
      (fun a => { a with silence := some (ms (s.cfgN 240)), lapsed := false }) = alive h s := by
  have hp : (fun p : PortRecord => p.cancelReply.waiting) = fun p => { p with
      frame := none, gap := none, reply := none
      queue := if p.reply = none then p.queue else p.queue.map fun e => { e with carried := false } } := by
    funext p
    unfold PortRecord.cancelReply PortRecord.waiting
    cases hq : p.reply <;> simp [hq]
  rw [hp]
  unfold alive heard
  cases h.port <;> rfl

theorem arbiterFrame_lapsed {h : Header} {s : State} (hh : s.auth.holder = some (stationOf h.port h.origin))
    (hl : s.auth.lapsed = true) :
    arbiterFrame (stationOf h.port h.origin) (s.modPort h.port fun p => p.cancelReply.waiting) = relieved h s := by
  have hauth : (s.modPort h.port fun p => p.cancelReply.waiting).auth = s.auth := by cases h.port <;> rfl
  have htime : (s.modPort h.port fun p => p.cancelReply.waiting).silenceTime = ms (s.cfgN 240) := by cases h.port <;> rfl
  have halive := modPort_heard h s
  unfold arbiterFrame
  rw [hauth, if_pos hh, htime, hl]
  dsimp only
  rw [if_pos rfl, halive, judge_unlapsed rfl]
  rfl

theorem unlapsed_reacted (v : State) : Reacted v (unlapsed v) := by
  unfold unlapsed
  dsimp only
  split
  · exact (Reacted.modEntry 14 _ v).trans (post_reacted _ _ _)
  · exact .modEntry 14 _ v

theorem unlapsed_notices (v : State) : (unlapsed v).ilk.notices = v.ilk.notices := by
  unfold unlapsed
  dsimp only
  split <;> rfl

theorem unlapsed_auth (v : State) : (unlapsed v).auth = v.auth := by
  unfold unlapsed
  dsimp only
  split <;> rfl

theorem State.modPort_self {p : Port} {f : PortRecord → PortRecord} {s : State} (h : f (s.port p) = s.port p) :
    s.modPort p f = s := by
  cases p
  · unfold State.modPort State.modLinks
    have h' : f s.links.a = s.links.a := h
    dsimp only
    rw [h']
  · unfold State.modPort State.modLinks
    have h' : f s.links.b = s.links.b := h
    dsimp only
    rw [h']

/-- A port that has no frame, no gap and no reply is as it was when its next frame has come. -/
theorem heard_self {h : Header} {u : State} (hf : (u.port h.port).frame = none) (hg : (u.port h.port).gap = none)
    (hr : (u.port h.port).reply = none)
    (ha : u.auth.holder = some (stationOf h.port h.origin) → u.auth.silence = some (ms (u.cfgN 240))) : heard h u = u := by
  have hport : ∀ p : PortRecord, p.frame = none → p.gap = none → p.reply = none → { p with
      frame := none, gap := none, reply := none
      queue := if p.reply = none then p.queue else p.queue.map fun e => { e with carried := false } } = p := by
    intro p hf hg hr
    rw [if_pos hr, ← hf, ← hr]
    cases p
    simp_all
  have hauth : { u.auth with silence :=
      if u.auth.holder = some (stationOf h.port h.origin) then some (ms (u.cfgN 240)) else u.auth.silence } = u.auth := by
    split
    · rw [← ha ‹_›]
    · rfl
  unfold heard
  rw [State.modPort_self (hport _ hf hg hr)]
  unfold State.modAuth
  dsimp only
  rw [hauth]

/-- The port that has heard a frame has none left, and listens as before. -/
theorem heard_port (h : Header) (s : State) : (heard h s).port h.port = { s.port h.port with
    frame := none, gap := none, reply := none
    queue := if (s.port h.port).reply = none then (s.port h.port).queue
      else (s.port h.port).queue.map fun e => { e with carried := false } } := by
  unfold heard
  cases hp : h.port <;> rfl

/-- A request is judged from what the arbiter has made of its frame alone. -/
theorem serve_congr {h : Header} {kind : Nat} {isRead : Bool} {body : Body} {s u : State}
    (hs : (s.port h.port).hears = true) (hu : (u.port h.port).hears = true)
    (hf : arbiterFrame (stationOf h.port h.origin) (s.modPort h.port fun p => p.cancelReply.waiting) =
      arbiterFrame (stationOf h.port h.origin) (u.modPort h.port fun p => p.cancelReply.waiting)) :
    serve h kind isRead body s = serve h kind isRead body u := by
  unfold serve handFrame
  rw [if_pos hs, if_pos hu]
  dsimp only
  rw [hf]

/-- What the first frame of a lapsed holder leaves of its port and of the arbiter. -/
theorem relieved_port (h : Header) (s : State) :
    PortKept ((heard h s).port h.port) ((relieved h s).port h.port) ∧ NoticesTaken s = NoticesTaken (relieved h s) ∧
    (relieved h s).auth = { s.auth with silence := some (ms (s.cfgN 240)), lapsed := false } ∧
    (relieved h s).store = s.store := by
  have hr : Reacted (alive h s) (relieved h s) := (post_reacted _ _ _).trans (unlapsed_reacted _)
  have hport : (alive h s).port h.port = (heard h s).port h.port := by cases h.port <;> rfl
  refine ⟨hport ▸ hr.port h.port, ?_, ?_, hr.store.trans (heard_store h s)⟩
  · rw [NoticesTaken, NoticesTaken, relieved, unlapsed_notices, post_ilk, heard_ilk]
  · rw [relieved, unlapsed_auth]
    rfl

/-- Settles O52: the lapse passes authority on and judges entry 14; a lapsed holder's frame leaves the part as one
that has heard it from a holder that is not lapsed. -/
theorem silenceLapsesTheHolder : Obligations.SilenceLapsesTheHolder := by
  refine ⟨fun s h0 _ => ?_, fun c h kind payload s hw hlisten htrans h0 hh hl => ?_⟩
  · split
    · rename_i hs
      exact (if_pos (by rw [hs]; rfl) : execSilenceTimerExpiry s = .next s)
    · rename_i hs
      intro after
      have hafter : { passedOn s with lapsed := true } = after := by
        unfold passedOn
        simp only [after]
        split <;> rfl
      have hclaim : after.claimant = none := by
        simp only [after]
        split <;> rfl
      obtain ⟨hsettle, hrest⟩ := silenceLapses (after := after) h0 (by rw [← hafter]) hclaim
      refine ⟨_, ?_, hrest⟩
      have : execSilenceTimerExpiry s = .next (settle (lapse s)) := if_neg (by simpa using hs)
      rw [lapse_eq, hafter, hsettle] at this
      exact this
  · intro v e w u
    have hu : u = relieved h s := rfl
    obtain ⟨hport, hnotices, hauth, hstore⟩ := relieved_port h s
    rw [heard_port] at hport
    have hlisten' : (u.port h.port).listening = true := (congrArg PortRecord.listening hport :).trans hlisten
    have htrans' : (u.port h.port).transmitting = false := (congrArg PortRecord.transmitting hport :).trans htrans
    have hrec : Receives h u := ⟨hlisten', htrans', fun _ => by rw [hu, hauth], hnotices ▸ h0⟩
    have hcfg : u.cfgN 240 = s.cfgN 240 := by rw [hu, State.cfgN, hstore]; rfl
    have hself : heard h u = u := heard_self (congrArg PortRecord.frame hport :) (congrArg PortRecord.gap hport :)
      (congrArg PortRecord.reply hport :) fun _ => by rw [hcfg, hu, hauth]
    obtain ⟨t, ht, -⟩ := exec_taken c u
    refine ⟨?_, hrec, t, ht⟩
    obtain ⟨k, isRead, body, hexec⟩ := exec_served hw
    have hframe := heard_eq hrec
    rw [hself] at hframe
    have hears : ∀ x : State, (x.port h.port).listening = true → (x.port h.port).transmitting = false →
        (x.port h.port).hears = true := fun x h1 h2 => by rw [PortRecord.hears, h1, h2]; rfl
    rw [hexec, hexec, serve_congr (hears s hlisten htrans) (hears u hlisten' htrans') ((arbiterFrame_lapsed hh hl).trans hframe.symm)]

end Sys2Proof.Machine
end

section
/-! PROOF. The active list through a release of the PTO (R35, R42): an entry that has joined stays at the list's end. -/

namespace Sys2Proof.Machine

/-- The list stands, and so does an entry with its report. -/
structure ListKept (n : Fin 32) (s t : State) : Prop where
  active : t.ilk.active = s.ilk.active
  entry : t.ilk.entries[n] = s.ilk.entries[n]
  told : ∀ r, Reported (.lockout n) r s → Reported (.lockout n) r t

theorem ListKept.trans {n : Fin 32} {s t u : State} (h : ListKept n s t) (k : ListKept n t u) : ListKept n s u where
  active := k.active.trans h.active
  entry := k.entry.trans h.entry
  told := fun r hr => k.told r (h.told r hr)

/-- The interlock unit stands, and no LOCKOUT report moves. -/
theorem ListKept.of_ilk {n : Fin 32} {s t : State} {K : ReportKey → Prop} (hi : t.ilk.active = s.ilk.active)
    (he : t.ilk.entries[n] = s.ilk.entries[n]) (hk : KeepsReports K s t) (hK : ¬ K (.lockout n)) : ListKept n s t :=
  ⟨hi, he, fun r hr => hk _ r hK hr⟩

/-- A judgment of another entry that neither joins nor leaves. -/
theorem judge_listKept {m n : Fin 32} (hmn : n ≠ m) {s : State}
    (hjoin : effective s m = true → s.ilk.entries[m].state = .clear → entryDelay s m ≠ 0)
    (hleave : effective s m = false → s.ilk.entries[m].state = .active → entryLatches s m = true) : ListKept n s (judge m s) := by
  have hj := judge_judged m s
  have ha : (judge m s).ilk.active = s.ilk.active := by
    have h := judge_cases m s
    dsimp only at h
    split at h
    · split at h
      · rw [if_neg (hjoin ‹_› ‹_›)] at h
        rw [h]
        rfl
      · split at h
        · exact h.2.1
        · rw [h]
    · split at h
      · rw [h]
        rfl
      · split at h
        · rw [if_pos (hleave (Bool.eq_false_iff.2 ‹_›) ‹_›)] at h
          exact h.2.1
        · rw [h]
  exact .of_ilk ha (hj.entries n hmn) hj.told (by simpa using hmn)

/-- Entries 1 and 2, which the PTO state moves, stand off the list. -/
structure PtoEntriesIdle (s : State) : Prop where
  fault : s.ilk.entries[(1 : Fin 32)].state = .clear
  confirm : s.ilk.entries[(2 : Fin 32)].state = .clear ∨ s.ilk.entries[(2 : Fin 32)].state = .pending

theorem PtoEntriesIdle.of_entries {s t : State} (h : PtoEntriesIdle s) (h1 : t.ilk.entries[(1 : Fin 32)] = s.ilk.entries[(1 : Fin 32)])
    (h2 : t.ilk.entries[(2 : Fin 32)] = s.ilk.entries[(2 : Fin 32)]) : PtoEntriesIdle t :=
  ⟨by rw [h1]; exact h.fault, by rw [h2]; exact h.confirm⟩

/-- An entry with a delay that is off the list is judged without joining it. -/
theorem entryMoved_idle {e : Entry} (h : e.state = .clear ∨ e.state = .pending) (src : Bool) {d : Nat} (hd : d ≠ 0) (l : Bool) :
    (entryMoved e src d l).state = .clear ∨ (entryMoved e src d l).state = .pending := by
  unfold entryMoved
  obtain h | h := h <;> cases src <;> simp [h, hd]

theorem entryMoved_clear {e : Entry} (h : e.state = .clear) (d : Nat) (l : Bool) : (entryMoved e false d l).state = .clear := by
  simp [entryMoved, h]

section Publication
variable {t : State} (hp : t.pto.state = .releasing ∨ t.pto.state = .disengaged)
include hp

theorem effective_fault_of_released : effective t 1 = false := by
  rw [effective, show sourcePresent t 1 = (t.pto.state == .fault) from rfl]
  obtain h | h := hp <;> rw [h] <;> rfl

theorem moveMode_idle (m : Mode) (h : PtoEntriesIdle t) : PtoEntriesIdle (moveMode m t) := by
  unfold moveMode
  split
  · exact h
  · have hb := modeBegun_interlocked (N := fun _ => True) m t
    constructor
    · rw [setMode_entry m t 1 false fun u hu => effective_fault_of_released (by rw [hu.pto, hb.pto]; exact hp)]
      exact entryMoved_clear h.fault _ _
    · rw [setMode_entry m t 2 (effective (modeBegun m t) 2) fun u hu => effective_confirm_congr hu.reacted.disc hu.pto]
      exact entryMoved_idle h.confirm _ (by decide : (500 : Nat) ≠ 0) _

/-- The judgments of entries 1, 2 and 3 at a publication keep the list: a PTO that is neither in FAULT nor slipping gives
entries 1 and 3 no source, entry 3 latches, and entry 2 has a delay (R34). -/
theorem judgePto_listed (hs : t.pto.slip = false) (h : PtoEntriesIdle t) {n : Fin 32} (hn : n ≠ 1 ∧ n ≠ 2 ∧ n ≠ 3) :
    PtoEntriesIdle (judge 3 (judge 2 (judge 1 t))) ∧ ListKept n t (judge 3 (judge 2 (judge 1 t))) := by
  obtain ⟨n1, n2, n3⟩ := hn
  have h1 := judge_judged 1 t
  have h2 := judge_judged 2 (judge 1 t)
  have h3 := judge_judged 3 (judge 2 (judge 1 t))
  have k1 : ListKept n t (judge 1 t) := judge_listKept n1 (fun he => by rw [effective_fault_of_released hp] at he; cases he)
    (fun _ ha => by rw [h.fault] at ha; cases ha)
  have e2 : (judge 1 t).ilk.entries[(2 : Fin 32)] = t.ilk.entries[(2 : Fin 32)] := h1.entries 2 (by decide)
  have k2 : ListKept n (judge 1 t) (judge 2 (judge 1 t)) := judge_listKept n2 (fun _ _ => (by decide : (500 : Nat) ≠ 0))
    (fun _ ha => by rw [e2] at ha; obtain hc | hc := h.confirm <;> rw [hc] at ha <;> cases ha)
  have hslip : effective (judge 2 (judge 1 t)) 3 = false := by
    rw [effective, show sourcePresent (judge 2 (judge 1 t)) 3 = (judge 2 (judge 1 t)).pto.slip from rfl, h2.pto, h1.pto, hs]
    rfl
  have k3 : ListKept n (judge 2 (judge 1 t)) (judge 3 (judge 2 (judge 1 t))) :=
    judge_listKept n3 (fun he => by rw [hslip] at he; cases he) fun _ _ => rfl
  refine ⟨⟨?_, ?_⟩, k1.trans (k2.trans k3)⟩
  · rw [h3.entries 1 (by decide), h2.entries 1 (by decide), judge_entry, effective_fault_of_released hp]
    exact entryMoved_clear h.fault _ _
  · rw [h3.entries 2 (by decide), judge_entry, e2]
    exact entryMoved_idle h.confirm _ (by decide : (500 : Nat) ≠ 0) _

end Publication

/-- The mode's answer to a publication, before the entries' (R26 to R28). -/
def modeAnswered (prev : PtoState) (s : State) : State := if s.pto.state = prev then s else moveMode (ptoMode s) s

theorem modeAnswered_pto (prev : PtoState) (s : State) : (modeAnswered prev s).pto = s.pto := by
  unfold modeAnswered
  split
  · rfl
  · exact (moveMode_interlocked (ptoMode s) s).pto

theorem interlockOnPto_answered (prev : PtoState) (s : State) :
    interlockOnPto prev s = judge 3 (judge 2 (judge 1 (modeAnswered prev s))) := interlockOnPto_eq prev s

theorem modeAnswered_idle {prev : PtoState} {t : State} (hp : t.pto.state = .releasing ∨ t.pto.state = .disengaged)
    (h : PtoEntriesIdle t) : PtoEntriesIdle (modeAnswered prev t) := by
  unfold modeAnswered
  split
  · exact h
  · exact moveMode_idle hp _ h

/-- The mode moves, or the interlock unit has not answered. -/
theorem modeAnswered_of_mode {prev : PtoState} {s : State} (h : (modeAnswered prev s).ilk.mode = s.ilk.mode) :
    modeAnswered prev s = s := by
  unfold modeAnswered moveMode at h ⊢
  split at h <;> rename_i hp
  · rw [if_pos hp]
  · rw [if_neg hp]
    split at h <;> rename_i hm
    · rw [if_pos hm]
    · rw [setMode_mode] at h
      exact absurd h hm

/-- A publication of RELEASING or DISENGAGED keeps the list where it keeps the mode. -/
theorem ptoPublish_listed (prev : PtoState) {t : State} (hp : t.pto.state = .releasing ∨ t.pto.state = .disengaged)
    (hs : t.pto.slip = false) (h : PtoEntriesIdle t) {n : Fin 32} (hn : n ≠ 1 ∧ n ≠ 2 ∧ n ≠ 3) :
    PtoEntriesIdle (ptoPublish prev t) ∧
      ((ptoPublish prev t).ilk.mode = t.ilk.mode → ListKept n t (ptoPublish prev t)) := by
  have hr : ListKept n t (raise .pto t) := .of_ilk rfl rfl (raise_keepsReports _ t) (by simp)
  have hx : PtoEntriesIdle (modeAnswered prev (raise .pto t)) :=
    modeAnswered_idle (raise_pto .pto t ▸ hp) (h.of_entries (by rw [raise_ilk]) (by rw [raise_ilk]))
  have hpto : (modeAnswered prev (raise .pto t)).pto = t.pto := (modeAnswered_pto prev _).trans (raise_pto .pto t)
  have hkeep := fun hm => modeAnswered_of_mode (prev := prev) (s := raise .pto t) hm
  have hd := ptoPublish_downstream prev t
  rw [interlockOnPto_answered] at hd
  generalize modeAnswered prev (raise .pto t) = x at *
  obtain ⟨hidle, hlist⟩ := judgePto_listed (t := x) (by rw [hpto]; exact hp) (by rw [hpto]; exact hs) hx hn
  have hmode : (judge 3 (judge 2 (judge 1 x))).ilk.mode = x.ilk.mode := (judgePto_judged x).mode
  refine ⟨hidle.of_entries (by rw [hd.ilk]) (by rw [hd.ilk]), fun hm => ?_⟩
  rw [hd.ilk, hmode] at hm
  have hxt := hkeep hm
  rw [hxt] at hlist hd
  exact hr.trans (hlist.trans (.of_ilk (by rw [hd.ilk]) (by rw [hd.ilk]) hd.reports (by simp)))

end Sys2Proof.Machine
end

section
/-! PROOF. The expiry of an entry's delay (R39, R44), and the answers to its join notice. -/

namespace Sys2Proof.Machine

/-! ## The list through the entries into the PTO states -/

/-- A publication of RELEASING moves no mode but ROAD, which the brake makes PARKED (R26). -/
theorem modeAfter_releasing {prev : PtoState} {s : State} (h : s.pto.state = .releasing) :
    modeAfter prev s = s.ilk.mode ∨
      s.ilk.mode = .road ∧ modeAfter prev s = .parked ∧ s.disc[0].active = true := by
  unfold modeAfter ptoMode modeJudged
  split
  · exact .inl rfl
  · cases hm : s.ilk.mode <;> cases hb : s.disc[0].active <;> simp [h]

/-- A publication of DISENGAGED under the park brake leaves PARKED (R26). -/
theorem modeAfter_parked {prev : PtoState} {s : State} (h : s.pto.state = .disengaged) (hm : s.ilk.mode = .parked)
    (hb : s.disc[0].active = true) : modeAfter prev s = .parked := by
  unfold modeAfter ptoMode modeJudged
  simp [h, hm, hb]

/-- The entry `n` and the list stand from `u` to `v`, unless the mode has moved, and that from ROAD to PARKED. -/
structure Tracked (n : Fin 32) (u v : State) : Prop where
  idle : PtoEntriesIdle v
  kept : v.ilk.mode = u.ilk.mode → ListKept n u v
  moved : v.ilk.mode ≠ u.ilk.mode → u.ilk.mode = .road ∧ v.ilk.mode = .parked ∧ v.disc[0].active = true

section Tracked
variable {n : Fin 32} {prev : PtoState} {u v w : State} {after : Pto} (h : Tracked n u v) (hp : Poised v after w)
  (hl : w.links = v.links) (hs : after.slip = false) (hn : n ≠ 1 ∧ n ≠ 2 ∧ n ≠ 3)
include h hp hl

theorem Tracked.poised : Tracked n u w where
  idle := h.idle.of_entries (by rw [hp.ilk]) (by rw [hp.ilk])
  kept := fun hm => (h.kept (by rw [← hm, hp.ilk])).trans
    (.of_ilk (K := fun _ => False) (by rw [hp.ilk]) (by rw [hp.ilk]) (.of_links hl) id)
  moved := fun hm => by
    rw [hp.ilk] at hm ⊢
    rw [hp.reacted.disc]
    exact h.moved hm

include hs hn

/-- A publication of RELEASING. -/
theorem Tracked.releasing (ha : after.state = .releasing) : Tracked n u (ptoPublish prev w) := by
  have hw := h.poised hp hl
  have hpto : w.pto.state = .releasing := by rw [hp.pto]; exact ha
  obtain ⟨hidle, hlist⟩ := ptoPublish_listed prev (t := w) (.inl hpto) (by rw [hp.pto]; exact hs) hw.idle hn
  have hmode := (ptoPublish_published prev w).moved.1
  have hdisc := (ptoPublish_published prev w).reacted.disc
  refine ⟨hidle, fun hm => ?_, fun hm => ?_⟩
  · by_cases hwu : w.ilk.mode = u.ilk.mode
    · exact (hw.kept hwu).trans (hlist (hm.trans hwu.symm))
    · obtain ⟨hroad, hparked, -⟩ := hw.moved hwu
      rw [hmode, hroad] at hm
      obtain hsame | ⟨hr, -⟩ := modeAfter_releasing (prev := prev) hpto
      · rw [hsame, hparked] at hm
        cases hm
      · cases hparked.symm.trans hr
  · rw [hmode] at hm ⊢
    rw [hdisc]
    obtain hsame | ⟨hr, hpk, hb⟩ := modeAfter_releasing (prev := prev) hpto
    · rw [hsame] at hm ⊢
      exact hw.moved hm
    · by_cases hwu : w.ilk.mode = u.ilk.mode
      · exact ⟨hwu ▸ hr, hpk, hb⟩
      · exact ⟨(hw.moved hwu).1, hpk, hb⟩

/-- A publication of DISENGAGED, the last of its command. -/
theorem Tracked.disengaged (ha : after.state = .disengaged) (hm : (ptoPublish prev w).ilk.mode = u.ilk.mode) :
    ListKept n u (ptoPublish prev w) := by
  have hw := h.poised hp hl
  have hpto : w.pto.state = .disengaged := by rw [hp.pto]; exact ha
  obtain ⟨-, hlist⟩ := ptoPublish_listed prev (t := w) (.inr hpto) (by rw [hp.pto]; exact hs) hw.idle hn
  have hmode := (ptoPublish_published prev w).moved.1
  by_cases hwu : w.ilk.mode = u.ilk.mode
  · exact (hw.kept hwu).trans (hlist (hm.trans hwu.symm))
  · obtain ⟨hroad, hparked, hb⟩ := hw.moved hwu
    rw [hmode, modeAfter_parked hpto hparked hb, hroad] at hm
    cases hm

end Tracked

/-! ## The entries, before their publications -/

def disengagedPoised (cause : Option AbandonCause) (v : State) : State :=
  command ptoSol false (v.modPto fun p => { p.noTimers with
    state := .disengaged, stage := none, reason := none, abandon := cause, slip := false })

theorem enterDisengaged_eq (cause : Option AbandonCause) (v : State) :
    enterDisengaged cause v = ptoPublish v.pto.state (disengagedPoised cause v) := rfl

theorem disengagedPoised_poised (cause : Option AbandonCause) (v : State) :
    Poised v (ptoDisengaged cause) (disengagedPoised cause v) :=
  .of_command (fun p => { p.noTimers with
    state := .disengaged, stage := none, reason := none, abandon := cause, slip := false }) v rfl

def dropPoised (v : State) : State :=
  command ptoSol false (v.modPto fun p => { p.noTimers with
    state := .releasing, stage := some .drop, reason := none, abandon := none, slip := false
    stageTimer := some (ms (v.cfgN 79)) })

theorem enterDrop_eq (v : State) : enterDrop v =
    if (ptoPublish v.pto.state (dropPoised v)).disc[2].active then ptoPublish v.pto.state (dropPoised v)
    else enterDisengaged none (ptoPublish v.pto.state (dropPoised v)) := rfl

theorem dropPoised_poised (v : State) : ∃ after : Pto, after.state = .releasing ∧ after.slip = false ∧
    Poised v after (dropPoised v) := ⟨_, rfl, rfl, .of_command (fun p => { p.noTimers with
    state := .releasing, stage := some .drop, reason := none, abandon := none, slip := false
    stageTimer := some (ms (v.cfgN 79)) }) v rfl⟩

def spinDownPoised (v : State) : State :=
  v.modPto fun p => { p.noTimers with
    state := .releasing, stage := some .spinDown, reason := none, abandon := none, slip := false
    stageTimer := some (ms (v.cfgN 77)) }

theorem enterSpinDown_eq (v : State) : enterSpinDown v =
    let t := ptoPublish v.pto.state (spinDownPoised v)
    if t.pulse.eng.rate ≤ t.cfgN 78 then enterDrop t else t := by
  unfold enterSpinDown spinDownPoised
  rfl

theorem spinDownPoised_poised {v : State} (hv : v.pto.state = .engaging ∨ v.pto.state = .engaged) :
    ∃ after : Pto, after.state = .releasing ∧ after.slip = false ∧ Poised v after (spinDownPoised v) :=
  ⟨_, rfl, rfl, .of_modPto (fun p => { p.noTimers with
    state := .releasing, stage := some .spinDown, reason := none, abandon := none, slip := false
    stageTimer := some (ms (v.cfgN 77)) }) v (by obtain hv | hv := hv <;> simp [solenoidWanted, hv])⟩

section Entries
variable {n : Fin 32} {u v : State} (h : Tracked n u v) (hn : n ≠ 1 ∧ n ≠ 2 ∧ n ≠ 3)
include h hn

theorem enterDisengaged_listed (cause : Option AbandonCause) (hm : (enterDisengaged cause v).ilk.mode = u.ilk.mode) :
    ListKept n u (enterDisengaged cause v) := by
  have hl : (disengagedPoised cause v).links = v.links := (command_lineOnly _ _ _).links
  rw [enterDisengaged_eq] at hm ⊢
  exact h.disengaged (disengagedPoised_poised cause v) hl rfl hn rfl hm

theorem enterDrop_listed (hm : (enterDrop v).ilk.mode = u.ilk.mode) : ListKept n u (enterDrop v) := by
  have hl : (dropPoised v).links = v.links := (command_lineOnly _ _ _).links
  obtain ⟨after, ha, hs, hp⟩ := dropPoised_poised v
  have hd := h.releasing (prev := v.pto.state) hp hl hs hn ha
  rw [enterDrop_eq] at hm ⊢
  generalize ptoPublish v.pto.state (dropPoised v) = w at *
  split at hm <;> rename_i hc
  · rw [if_pos hc]
    exact hd.kept hm
  · rw [if_neg hc]
    exact enterDisengaged_listed hd hn none hm

theorem enterSpinDown_listed (hv : v.pto.state = .engaging ∨ v.pto.state = .engaged)
    (hm : (enterSpinDown v).ilk.mode = u.ilk.mode) : ListKept n u (enterSpinDown v) := by
  obtain ⟨after, ha, hs, hp⟩ := spinDownPoised_poised hv
  have hd := h.releasing (prev := v.pto.state) hp rfl hs hn ha
  rw [enterSpinDown_eq] at hm ⊢
  generalize ptoPublish v.pto.state (spinDownPoised v) = w at *
  dsimp only at hm ⊢
  split at hm <;> rename_i hc
  · rw [if_pos hc]
    exact enterDrop_listed hd hn hm
  · rw [if_neg hc]
    exact hd.kept hm

end Entries

/-! ## The join, and what its notice does -/

/-- The part once an entry has joinTaken and its notice has been picked up. -/
def joinTaken (n : Fin 32) (s : State) : State := (join n s).modIlk fun k => { k with notices := [] }

theorem join_notices {n : Fin 32} {s : State} (h0 : NoticesTaken s) : (join n s).ilk.notices = noticeOf n s := by
  obtain ⟨c, h⟩ := join_ilk n s
  rw [h]
  exact congrArg (· ++ noticeOf n s) h0

theorem joinTaken_judged {n : Fin 32} {s : State} (h0 : NoticesTaken s) : Judged (· = n) s (joinTaken n s) := by
  obtain ⟨u, hj, he⟩ := join_eq n s
  have hu : joinTaken n s = u.modIlk fun k => { k with notices := [] } := by
    unfold joinTaken
    rw [he]
    rfl
  rw [hu]
  exact
    { reacted := hj.reacted
      pulse := hj.pulse
      pto := hj.pto
      tank := hj.tank
      auth := hj.auth
      lines := hj.lines
      bounds := hj.bounds.trans (.of_eq rfl rfl (.of_links rfl))
      entries := hj.entries
      listed := hj.listed
      notices := ⟨[], by rw [h0]; rfl, nofun⟩
      reports := hj.reports
      stop := fun h => (hj.stop h).of_eq rfl rfl
      road := hj.road
      mode := hj.mode
      ready := hj.ready
      told := hj.told }

theorem joinTaken_stands (n : Fin 32) (s : State) : EntryStands n ⟨.active, none, false⟩ (s.ilk.active ++ [n]) (joinTaken n s) :=
  join_stands n s

/-- The end of the command takes the entry's notice, and then those that its takers have given. -/
theorem settle_join {n : Fin 32} {s : State} (h0 : NoticesTaken s) :
    settle (join n s) = takeNotices 255 (takeNotice ⟨n, entryActions s n⟩ (joinTaken n s)) := by
  have hnot := join_notices (n := n) h0
  unfold noticeOf at hnot
  split at hnot <;> rename_i hg
  · exact settle_of_one hnot
  · have hself : joinTaken n s = join n s := by
      unfold joinTaken State.modIlk
      rw [← hnot]
    have htake : takeNotice ⟨n, entryActions s n⟩ (joinTaken n s) = joinTaken n s := by
      unfold takeNotice
      simp only [givesNotice, Bool.or_eq_true, not_or, Bool.not_eq_true, beq_iff_eq] at hg
      obtain ⟨⟨⟨h1, h2⟩, h3⟩, h4⟩ := hg
      simp [h1, h2, h3, h4]
    rw [htake, hself, settle_of_no_notice _ hnot]
    unfold takeNotices
    rw [hnot]

/-! ## D under an entry that forces IDLE -/

theorem dmaxOf_of_force {s : State} (h : inForce s (·.forceIdle) = true) : dmaxOf s = s.gov.work.nidle := by
  unfold dmaxOf
  simp [h]

theorem inForce_of_mem {s : State} {n : Fin 32} {act : ActionSet → Bool} (hn : n ∈ s.ilk.active)
    (ha : act (entryActions s n) = true) : inForce s act = true := List.any_eq_true.2 ⟨n, hn, ha⟩

/-- A changed list that forces IDLE leaves D, or brings it to Nidle at most (R81). -/
theorem listChanged_forced {b : ActionSet} {s : State} (ho : s.gov.state ≠ .off)
    (hf : inForce s (·.forceIdle) = true) : (listChanged b s).gov.demand = s.gov.demand ∨
      (listChanged b s).gov.demand = s.gov.demand.map (min · s.gov.work.nidle) := by
  have hg : (alarmJudge (interlockLines s)).gov = s.gov := (alarmJudge_gov _).trans (interlockLines_gov s)
  have hforce : inForce (alarmJudge (interlockLines s)) (·.forceIdle) = true := by
    obtain ⟨c, hc⟩ := alarmJudge_ilk (interlockLines s)
    rw [inForce_of_live (s := s) (by rw [((interlockLines_reacted s).trans (alarmJudge_reacted _)).store])
      (by rw [hc, interlockLines_ilk])]
    exact hf
  unfold listChanged
  dsimp only
  split
  · exact .inl (by rw [hg])
  · right
    rw [rejudgeBounds_demand (by rw [hg]; exact ho), dmaxOf_of_force hforce, hg]

/-- An entry that joins with FORCE_IDLE leaves D, or brings it to Nidle at most. -/
theorem joinTaken_forced {n : Fin 32} {s : State} (ho : s.gov.state ≠ .off)
    (hf : (entryActions s n).forceIdle = true) : (joinTaken n s).gov.demand = s.gov.demand ∨
      (joinTaken n s).gov.demand = s.gov.demand.map (min · s.gov.work.nidle) := by
  have hg : (joinTaken n s).gov = (enlisted n s).gov := by
    unfold joinTaken
    obtain hj | hj := join_enlisted n s
    · rw [hj, State.modIlk_gov]
    · rw [hj, State.modIlk_gov, State.modIlk_gov]
  rw [hg]
  unfold enlisted relisted
  exact listChanged_forced ho (inForce_of_mem (n := n) (by simp) hf)

/-- Nidle lies within D, so that a forced IDLE brings D to it (R77). -/
theorem governorForceIdle_demand {s : State} {d : Int} (ho : s.gov.state ≠ .off)
    (hf : inForce s (·.forceIdle) = true) (hd : s.gov.demand = some d) :
    (governorForceIdle s).gov.state = .idle ∧ (governorForceIdle s).gov.demand = some (min d s.gov.work.nidle) := by
  have h : ∀ v : State, v.gov = { s.gov with state := .idle } → v.ilk = s.ilk → v.store = s.store →
      (rejudgeBounds v).gov.state = .idle ∧ (rejudgeBounds v).gov.demand = some (min d s.gov.work.nidle) := by
    intro v hg hi hs
    have hforce : inForce v (·.forceIdle) = true := by
      rw [inForce_of_live (s := s) (by rw [hs]) (by rw [hi])]
      exact hf
    rw [(rejudgeBounds_rebounded v).state, rejudgeBounds_demand (by rw [hg]; nofun), dmaxOf_of_force hforce, hg, hd]
    exact ⟨rfl, rfl⟩
  unfold governorForceIdle
  rw [if_neg ho]
  dsimp only
  split
  · exact h _ rfl rfl rfl
  · exact h _ rfl rfl rfl

/-- An entry delay's expiry that forces IDLE brings D to Nidle (R77). -/
theorem joinTaken_idle {n : Fin 32} {s : State} (h0 : NoticesTaken s) (hduty : DutyLaw s) (ho : s.gov.state ≠ .off)
    (hf : (entryActions s n).forceIdle = true) : (governorForceIdle (joinTaken n s)).gov.state = .idle ∧
      (governorForceIdle (joinTaken n s)).gov.demand = some s.gov.work.nidle := by
  obtain ⟨hsome, -, -, -, hbounds⟩ := hduty
  obtain ⟨d, hd⟩ := Option.isSome_iff_exists.1 (hsome.2 ho)
  have hle : s.gov.work.nidle ≤ d := by
    have := (hbounds ho).1
    rwa [hd] at this
  have hj := joinTaken_judged (n := n) h0
  have hact := (joinTaken_stands n s).2.1
  have hforce : inForce (joinTaken n s) (·.forceIdle) = true :=
    inForce_of_mem (n := n) (by rw [hact]; simp) (by rw [entryActions_of_store hj.reacted.store]; exact hf)
  have ho' : (joinTaken n s).gov.state ≠ .off := by rw [hj.bounds.state]; exact ho
  have hmin : ∀ x, x = d ∨ x = min d s.gov.work.nidle → min x s.gov.work.nidle = s.gov.work.nidle := by
    rintro x (rfl | rfl)
    · exact min_eq_right hle
    · rw [min_assoc, min_self, min_eq_right hle]
  have hx : ∃ x, (joinTaken n s).gov.demand = some x ∧ (x = d ∨ x = min d s.gov.work.nidle) := by
    obtain h | h := joinTaken_forced ho hf <;> rw [hd] at h
    · exact ⟨d, h, .inl rfl⟩
    · exact ⟨_, h, .inr rfl⟩
  obtain ⟨x, hx, hcase⟩ := hx
  have h := governorForceIdle_demand ho' hforce hx
  rwa [hj.bounds.work, hmin x hcase] at h

/-! ## An entry without a PTO action -/

theorem takeNotices_none {s : State} (k : Nat) (h : s.ilk.notices = []) : takeNotices k s = s := by
  cases k with
  | zero =>
    unfold takeNotices State.modIlk
    rw [← h]
  | succ k =>
    unfold takeNotices
    rw [h]

/-- The join of an entry that moves the governor alone, at the end of its command. -/
theorem settle_join_deaf {n : Fin 32} {s : State} (h0 : NoticesTaken s)
    (hd : Deaf s.pto ⟨n, entryActions s n⟩) : settle (join n s) =
      if (entryActions s n).forceIdle then governorForceIdle (joinTaken n s) else joinTaken n s := by
  have hpto : (joinTaken n s).pto = s.pto := (joinTaken_judged h0).pto
  have hd' : Deaf (joinTaken n s).pto ⟨n, entryActions s n⟩ := hpto ▸ hd
  have hi := (takeNotice_idled hd').ilk
  rw [settle_join h0, takeNotices_none 255 (by rw [hi]; rfl), takeNotice_of_deaf hd']

/-- What such a join makes of the part. -/
theorem settle_join_kept {n : Fin 32} {s : State} (h0 : NoticesTaken s)
    (hd : Deaf s.pto ⟨n, entryActions s n⟩) :
    Judged (· = n) s (joinTaken n s) ∧ Idled (joinTaken n s) (settle (join n s)) ∧
      EntryStands n ⟨.active, none, false⟩ (s.ilk.active ++ [n]) (settle (join n s)) := by
  have hi : Idled (joinTaken n s) (settle (join n s)) := by
    rw [settle_join_deaf h0 hd]
    split
    · exact governorForceIdle_idled _
    · exact .refl _
  obtain ⟨h1, h2, h3⟩ := joinTaken_stands n s
  refine ⟨joinTaken_judged h0, hi, ?_, ?_, hi.reports _ _ (by simp) h3⟩
  · rw [hi.ilk]
    exact h1
  · rw [hi.ilk]
    exact h2

/-! ## An entry with a PTO action -/

/-- A release or an abandonment that a join notice begins, at the end of the command. -/
theorem released_answered {n : Fin 32} {s v w : State} {after : Pto} (h0 : NoticesTaken s) (hstop : NoStop s)
    (hg : GovernorStateLaw s) (he : Entered (joinTaken n s) after v)
    (ha : after.state = .releasing ∨ after.state = .disengaged) (hw : Idled v w)
    (hl : v.ilk.mode = (joinTaken n s).ilk.mode → ListKept n (joinTaken n s) v) :
    let t := takeNotices 255 w
    Reacted s t ∧ PtoAnswered s after t ∧
      (t.ilk.mode = s.ilk.mode → EntryStands n ⟨.active, none, false⟩ (s.ilk.active ++ [n]) t) := by
  have hj := joinTaken_judged (n := n) h0
  have hne : after.state ≠ .qualify ∧ after.state ≠ .engaging ∧ after.state ≠ .engaged := by
    obtain ha | ha := ha <;> rw [ha] <;> decide
  have hdeaf := he.deaf (hj.stop hstop) rfl ⟨hne.1, hne.2.1⟩ fun h => absurd h hne.2.2
  have hwi := hw.ilk
  have ht : Idled (v.modIlk fun i => { i with notices := [] }) (takeNotices 255 w) :=
    (hw.modIlk _).trans (takeNotices_idled 255 w (by rw [hwi, hw.pto]; exact hdeaf))
  have hg' : GovernorStateLaw (joinTaken n s) := by
    rw [GovernorStateLaw, hj.bounds.state, hj.pto]
    exact hg
  obtain ⟨h1, h2, h3⟩ := joinTaken_stands n s
  have hlines : (joinTaken n s).out.lines[ptoSol] = s.out.lines[ptoSol] :=
    hj.lines ptoSol (by decide) (by decide) (by decide) (by decide)
  refine ⟨(hj.reacted.trans he.reacted).trans (Reacted.trans (.modIlk _ v) ht.reacted),
    (he.answered_idled hg' ha ht).of_same hj.pto hj.mode hj.reacted.disc hj.reacted.store hlines, fun hm => ?_⟩
  have htm : (takeNotices 255 w).ilk = { v.ilk with notices := [] } := ht.ilk
  have hk := hl (by rw [hj.mode, ← hm, htm])
  refine ⟨?_, ?_, ht.reports _ _ (by simp) (hk.told _ h3)⟩
  · rw [htm]
    exact hk.entry.trans h1
  · rw [htm]
    exact hk.active.trans h2

/-- An entry that is PENDING is none of those that a stop or a fault of the PTO holds, and one of PTO action is none of
the fixed ones that the PTO's own publications judge (R34, R39). -/
theorem pending_other {n : Fin 32} {s : State} (hn : s.ilk.entries[n].state = .pending) (hstop : StopTaken s)
    (hpto : PtoTaken s) (ha : (entryActions s n).releasePto = true ∨ (entryActions s n).inhibitPto = true) :
    n ≠ 0 ∧ n ≠ 1 ∧ n ≠ 2 ∧ n ≠ 3 := by
  refine ⟨?_, ?_, ?_, ?_⟩
  · rintro rfl
    exact hstop.2 hn
  · rintro rfl
    have h := hpto.1.symm.trans hn
    split at h <;> cases h
  · rintro rfl
    exact ha.elim nofun nofun
  · rintro rfl
    exact ha.elim nofun nofun

/-- Outside DISENGAGED and FAULT entries 1 and 2 stand off the list (R34, R35). -/
theorem joinTaken_tracked {n : Fin 32} {s : State} (h0 : NoticesTaken s) (hn : n ≠ 1 ∧ n ≠ 2 ∧ n ≠ 3) (hpto : PtoTaken s)
    (hs : s.pto.state ≠ .disengaged ∧ s.pto.state ≠ .fault) : Tracked n (joinTaken n s) (joinTaken n s) := by
  obtain ⟨h1, -, h2⟩ := hpto
  have hj := joinTaken_judged (n := n) h0
  refine ⟨⟨?_, .inl ?_⟩, fun _ => ⟨rfl, rfl, fun _ h => h⟩, fun h => absurd rfl h⟩
  · rw [hj.entries 1 (Ne.symm hn.1)]
    exact h1.trans (if_neg hs.2)
  · rw [hj.entries 2 (Ne.symm hn.2.1)]
    exact h2.2 fun h => h.2.elim hs.1 hs.2

/-- A notice of PTO action is taken by the PTO controller, and then by the governor (R44). -/
theorem takeNotice_acted {x : Notice} {s : State} (hx : x.entry ≠ 0)
    (ha : x.actions.releasePto = true ∨ x.actions.inhibitPto = true) : Idled (ptoOnNotice x s) (takeNotice x s) := by
  have ha' : (x.actions.releasePto || x.actions.inhibitPto) = true := by
    obtain h | h := ha <;> simp [h]
  unfold takeNotice
  dsimp only
  rw [if_pos ha', if_neg hx]
  split
  · exact governorForceIdle_idled _
  · exact .refl _

theorem ptoReleased_congr {s t : State} (hr : t.pulse.eng.rate = s.pulse.eng.rate) (hd : t.disc = s.disc)
    (hs : t.store = s.store) : ptoReleased t = ptoReleased s := by
  have hc : ∀ i, t.cfgN i = s.cfgN i := fun i => by rw [State.cfgN, hs]; rfl
  unfold ptoReleased
  rw [hr, hc, hc, ptoDropped_congr (by rw [hd]) hs]

/-- Settles O26: a PENDING entry joins, and its notice is taken by the PTO controller and the governor. -/
theorem entryDelayExpiryJoins : Obligations.EntryDelayExpiryJoins := by
  intro n s h0 hduty a
  split
  · rename_i hn
    exact (if_neg hn : execEntryDelayExpiry n s = .next s)
  · rename_i hn
    have hn : s.ilk.entries[n].state = .pending := not_not.1 hn
    have hexec : execEntryDelayExpiry n s = .next (settle (join n s)) := if_pos hn
    refine ⟨fun hr hi hzero => ?_, fun hact hsound hpto => ?_⟩
    · have hdeaf : Deaf s.pto ⟨n, a⟩ := ⟨hzero, .inl ⟨hi, hr⟩⟩
      obtain ⟨hj, hid, h1, h2, h3⟩ := settle_join_kept h0 hdeaf
      refine ⟨_, hexec, hj.reacted.trans hid.reacted, by rw [hid.ilk]; exact hj.mode, hid.pto.trans hj.pto, h1, h2, h3,
        fun hf ho => ?_, fun m hm => by rw [hid.ilk]; exact hj.entries m hm⟩
      have h := joinTaken_idle h0 hduty ho hf
      rwa [← (settle_join_deaf h0 hdeaf).trans (if_pos hf)] at h
    · obtain ⟨-, -, -, hstop, hgov, -⟩ := id hsound
      obtain ⟨hzero, hother⟩ := pending_other hn hstop hpto hact
      have hj := joinTaken_judged (n := n) h0
      have htake := takeNotice_acted (x := ⟨n, a⟩) (s := joinTaken n s) hzero hact
      have hexec := hexec.trans (congrArg Host.Outcome.next (settle_join h0))
      by_cases hq : s.pto.state = .qualify
      · have hv : ptoOnNotice ⟨n, a⟩ (joinTaken n s) = enterDisengaged (some .lockout) (joinTaken n s) := by
          unfold ptoOnNotice
          rw [hj.pto, hq]
        have hafter : ptoOnJoin a s = ptoDisengaged (some .lockout) := if_pos hq
        have htracked := joinTaken_tracked h0 hother hpto (by rw [hq]; decide)
        rw [hv] at htake
        rw [hafter]
        exact ⟨_, hexec, released_answered h0 hstop.noStop hgov (enterDisengaged_entered _ _) (.inr rfl) htake
          (enterDisengaged_listed htracked hother _)⟩
      by_cases hrel : s.pto.state = .engaging ∨ s.pto.state = .engaged ∧ a.releasePto = true
      · have hstate : (joinTaken n s).pto.state = .engaging ∨ (joinTaken n s).pto.state = .engaged := by
          rw [hj.pto]
          exact hrel.imp_right And.left
        have hv : ptoOnNotice ⟨n, a⟩ (joinTaken n s) = enterSpinDown (joinTaken n s) := by
          unfold ptoOnNotice
          rw [hj.pto]
          obtain he | ⟨he, hr⟩ := hrel
          · rw [he]
            exact if_neg hzero
          · rw [he]
            exact (if_neg hzero).trans (if_pos hr)
        have hafter : ptoOnJoin a s = ptoReleased (joinTaken n s) := by
          have h := ptoReleased_congr (t := joinTaken n s) (s := s)
            (congrArg (fun p : Pulse => p.eng.rate) hj.pulse) hj.reacted.disc hj.reacted.store
          rw [h, ptoOnJoin, if_neg hq, if_pos hrel]
        have htracked := joinTaken_tracked h0 hother hpto
          (by obtain h | ⟨h, -⟩ := hrel <;> rw [h] <;> decide)
        rw [hv] at htake
        rw [hafter]
        exact ⟨_, hexec, released_answered h0 hstop.noStop hgov (enterSpinDown_entered hstate) (ptoReleased_state _) htake
          (enterSpinDown_listed htracked hother hstate)⟩
      · have hafter : ptoOnJoin a s = s.pto := by rw [ptoOnJoin, if_neg hq, if_neg hrel]
        push Not at hrel
        have hdeaf : Deaf s.pto ⟨n, a⟩ :=
          ⟨hzero, .inr ⟨hq, hrel.1, fun he => Bool.eq_false_iff.2 (hrel.2 he)⟩⟩
        obtain ⟨-, hid, hstands⟩ := settle_join_kept h0 hdeaf
        rw [settle_join h0] at hid hstands
        rw [hafter]
        refine ⟨_, hexec, hj.reacted.trans hid.reacted, ptoAnswered_of_stay (hid.pto.trans hj.pto) rfl rfl ?_ ?_,
          fun _ => hstands⟩
        · rw [hid.ilk]
          exact hj.mode
        · rw [hid.out]
          exact hj.lines ptoSol (by decide) (by decide) (by decide) (by decide)

end Sys2Proof.Machine
end

section
/-! PROOF. Acknowledge Lockout with ALL on a list that names entry 0 twice (R47, R119, R134): the statement has no
premise on the active list or on the settings, and there it fails. -/

namespace Sys2Proof.Machine

/-- A stop hold whose entry 0 stands HELD and twice in the list, with AUTO filling between crossed limits: a closed
valve opens at 800 and below (item 201), an open one closes from 200 on (item 202), and 500 is reported. -/
def twiceHeld : State :=
  { State.reset with
    ilk := { State.reset.ilk with entries := State.reset.ilk.entries.set 0 ⟨.held, none, false⟩, active := [0, 0] }
    out := { State.reset.out with hold := true }
    tank := { State.reset.tank with fillMode := .auto, external := true, levelVrep := 500 }
    store := { State.reset.store with live := [(201, 800), (202, 200)] }
    links := { State.reset.links with a := { State.reset.links.a with listening := true } } }

/-- An operator's request at port A. -/
def panelRequest : Header := ⟨.a, .operator, 0, false⟩

/-- Whether FILL_VALVE is commanded on in the next state, if there is one. -/
def fillCommanded : Host.Outcome State Fault Refusal → Option Bool
  | .next t => some t.out.lines[fillValve].commanded
  | _ => none

theorem twiceHeld_receives : Receives panelRequest twiceHeld := ⟨rfl, rfl, fun _ => rfl, rfl⟩

theorem twiceHeld_diag : DiagLaw twiceHeld := by decide +kernel

theorem twiceHeld_duty : DutyLaw twiceHeld := by decide +kernel

/-- The end of the hold wants the valve open (R119, R134). -/
theorem twiceHeld_wanted : fillWanted twiceHeld.tank.fillMode twiceHeld = true := by decide +kernel

/-- The list's second 0 ends the hold again, and judges the valve, open by then, closed. -/
theorem twiceHeld_closed : fillCommanded (exec (.acknowledgeLockoutAll panelRequest) twiceHeld) = some false := by
  decide +kernel

/-- Refutes O28: with entry 0 HELD and twice in the list, ALL ends the hold twice, and where the limits of AUTO filling
are crossed the second judgment closes the valve that the first has opened. Neither the active list's law (R42) nor the
settings' (R167) is a premise of the statement, and the example keeps neither: it is no state of a run. -/
theorem not_acknowledgeClearsHeldEntries : ¬ Obligations.AcknowledgeClearsHeldEntries := by
  intro h
  obtain ⟨-, t, hexec, -, -, -, -, -, -, -, hended⟩ := h.2 panelRequest twiceHeld twiceHeld_receives
  obtain ⟨-, -, -, -, -, -, hfill, -⟩ := hended (by decide +kernel) rfl twiceHeld_diag twiceHeld_duty
  have hclosed := twiceHeld_closed
  rw [hexec] at hclosed
  have hopen : t.out.lines[fillValve].commanded = true := hfill.trans twiceHeld_wanted
  exact absurd (hopen.symm.trans (Option.some.inj hclosed)) (by decide)

end Sys2Proof.Machine
end
